-- ==== Sys2Proof/Word.lean ====
section
/-! DEFINITION. The two word types of the machine: a byte (`u8`) and a 16-bit value (`u16`), 00_scope.md R9. -/

namespace Sys2Proof

/-- An unsigned 8-bit value, `u8` of R9. -/
abbrev Byte := BitVec 8

/-- An unsigned 16-bit value, `u16` of R9. -/
abbrev Word := BitVec 16

end Sys2Proof
end

