-- ==== Sys2Proof/Machine/Bits.lean ====
section
/-! DEFINITION. Bytes of a 16-bit value and the parity of a byte (00_scope.md R9, R10). -/

namespace Sys2Proof

/-- `{hi, lo}`: the 16-bit value of two bytes (R9). -/
def mkWord (hi lo : Byte) : Word := hi ++ lo

/-- `v[15:8]` (R9). -/
def hiByte (v : Word) : Byte := v.extractLsb' 8 8

/-- `v[7:0]` (R9). -/
def loByte (v : Word) : Byte := v.extractLsb' 0 8

/-- The number of 1 bits of a byte (R9). -/
def popcount (v : Byte) : Nat :=
  (v.getLsbD 0).toNat + (v.getLsbD 1).toNat + (v.getLsbD 2).toNat + (v.getLsbD 3).toNat +
    (v.getLsbD 4).toNat + (v.getLsbD 5).toNat + (v.getLsbD 6).toNat + (v.getLsbD 7).toNat

/-- `parity_even(v)`: `popcount(v) mod 2 == 0` (R10, 41_arithmetic.md R140). -/
def parityEven (v : Byte) : Bool := popcount v % 2 == 0

end Sys2Proof
end

