-- ==== Sys2Proof/Syntax.lean ====
section
/-! DEFINITION. The operand enumerations of 10_state.md and the instructions: one constructor of `Instr` for each of the
95 rows of spec/opcode_table.json, in the table's order. -/

namespace Sys2Proof

/-- The register enumeration of 10_state.md R22, in the order of its codes. `m` is the memory operand at HL (R23). -/
inductive Reg where
  | b | c | d | e | h | l | m | a
  deriving DecidableEq, Repr

/-- The register pair enumeration of 10_state.md R24, in the order of its codes. -/
inductive RegPair where
  | bc | de | hl | sp
  deriving DecidableEq, Repr

/-- The push and pop pair enumeration of 10_state.md R25, in the order of its codes. -/
inductive PushPair where
  | bc | de | hl | psw
  deriving DecidableEq, Repr

/-- The condition enumeration of 10_state.md R29, in the order of its codes. -/
inductive Cond where
  | nz | z | nc | c | po | pe | p | m
  deriving DecidableEq, Repr

/-- The instructions. -/
inductive Instr where
  -- 44_stack_io_control.md R276, R277, R275
  | nop
  | nop08
  | nop10
  | nop18
  | nop20
  | nop28
  | nop30
  | nop38
  | hlt
  -- 40_data_transfer.md R110 to R122
  | movRR (dst src : Reg)
  | movRM (dst : Reg)
  | movMR (src : Reg)
  | mviR (dst : Reg) (d8 : Byte)
  | mviM (d8 : Byte)
  | lxi (p : RegPair) (d16 : Word)
  | lda (addr : Word)
  | sta (addr : Word)
  | lhld (addr : Word)
  | shld (addr : Word)
  | ldax (p : RegPair)
  | stax (p : RegPair)
  | xchg
  -- 41_arithmetic.md R145 to R148, 42_logical.md R180 to R183
  | add (src : Reg)
  | adc (src : Reg)
  | sub (src : Reg)
  | sbb (src : Reg)
  | ana (src : Reg)
  | xra (src : Reg)
  | ora (src : Reg)
  | cmp (src : Reg)
  -- 41_arithmetic.md R149 to R152, 42_logical.md R184 to R187
  | adi (d8 : Byte)
  | aci (d8 : Byte)
  | sui (d8 : Byte)
  | sbi (d8 : Byte)
  | ani (d8 : Byte)
  | xri (d8 : Byte)
  | ori (d8 : Byte)
  | cpi (d8 : Byte)
  -- 41_arithmetic.md R153 to R158
  | inr (dst : Reg)
  | dcr (dst : Reg)
  | inx (p : RegPair)
  | dcx (p : RegPair)
  | dad (p : RegPair)
  | daa
  -- 42_logical.md R188 to R194
  | rlc
  | rrc
  | ral
  | rar
  | cma
  | stc
  | cmc
  -- 43_branch.md R210 to R219, R251
  | jmp (addr : Word)
  | jnz (addr : Word)
  | jz (addr : Word)
  | jnc (addr : Word)
  | jc (addr : Word)
  | jpo (addr : Word)
  | jpe (addr : Word)
  | jp (addr : Word)
  | jm (addr : Word)
  | pchl
  -- 43_branch.md R220 to R229
  | call (addr : Word)
  | cnz (addr : Word)
  | cz (addr : Word)
  | cnc (addr : Word)
  | cc (addr : Word)
  | cpo (addr : Word)
  | cpe (addr : Word)
  | cp (addr : Word)
  | cm (addr : Word)
  -- 43_branch.md R230 to R239, R250
  | ret
  | rnz
  | rz
  | rnc
  | rc
  | rpo
  | rpe
  | rp
  | rm
  | rst (n : BitVec 3)
  -- 44_stack_io_control.md R260 to R273
  | push (p : PushPair)
  | pushPsw
  | pop (p : PushPair)
  | popPsw
  | xthl
  | sphl
  | inPort (port : Byte)
  | outPort (port : Byte)
  | ei
  | di
  -- 60_exceptions.md R310: the five bytes that decode to no instruction
  | illegalCB
  | illegalD9
  | illegalDD
  | illegalED
  | illegalFD
  deriving DecidableEq, Repr

end Sys2Proof
end

