-- ==== Sys2Proof/WellFormed.lean ====
section
/-! DEFINITION. Which terms of `Instr` are instructions of their row: the operand restrictions of
spec/opcode_table.json ("ddd != 6, sss != 6", "0 = B, 1 = D only", "pp in 0..2") and 30_encoding.md R91. -/

namespace Sys2Proof

/-- The register is one of the seven physical registers, not M (R22). -/
def Reg.isPhysical : Reg → Bool
  | .m => false
  | _ => true

/-- The pair may address memory in LDAX and STAX: BC or DE (R91, R120, R121). -/
def RegPair.isIndirect : RegPair → Bool
  | .bc | .de => true
  | .hl | .sp => false

/-- The pair is one of the three of R260 and R262, not PSW, whose PUSH and POP are rows of their own. -/
def PushPair.isRegPair : PushPair → Bool
  | .psw => false
  | _ => true

/-- The operands are among those its row of the table admits. Rows with no restriction admit every operand (R91). -/
def Instr.wf : Instr → Bool
  | .movRR dst src => dst.isPhysical && src.isPhysical
  | .movRM dst => dst.isPhysical
  | .movMR src => src.isPhysical
  | .mviR dst _ => dst.isPhysical
  | .ldax p => p.isIndirect
  | .stax p => p.isIndirect
  | .push p => p.isRegPair
  | .pop p => p.isRegPair
  | .nop | .nop08 | .nop10 | .nop18 | .nop20 | .nop28 | .nop30 | .nop38 | .hlt => true
  | .mviM _ | .lxi _ _ | .lda _ | .sta _ | .lhld _ | .shld _ | .xchg => true
  | .add _ | .adc _ | .sub _ | .sbb _ | .ana _ | .xra _ | .ora _ | .cmp _ => true
  | .adi _ | .aci _ | .sui _ | .sbi _ | .ani _ | .xri _ | .ori _ | .cpi _ => true
  | .inr _ | .dcr _ | .inx _ | .dcx _ | .dad _ | .daa => true
  | .rlc | .rrc | .ral | .rar | .cma | .stc | .cmc => true
  | .jmp _ | .jnz _ | .jz _ | .jnc _ | .jc _ | .jpo _ | .jpe _ | .jp _ | .jm _ | .pchl => true
  | .call _ | .cnz _ | .cz _ | .cnc _ | .cc _ | .cpo _ | .cpe _ | .cp _ | .cm _ => true
  | .ret | .rnz | .rz | .rnc | .rc | .rpo | .rpe | .rp | .rm | .rst _ => true
  | .pushPsw | .popPsw | .xthl | .sphl | .inPort _ | .outPort _ | .ei | .di => true
  | .illegalCB | .illegalD9 | .illegalDD | .illegalED | .illegalFD => true

end Sys2Proof
end

