-- ==== Sys2Proof/Decode.lean ====
section
/-! DEFINITION. The decode unit of 30_encoding.md: a total function from the bytes of an instruction to `Instr` (R85), its
length (R80, R88), and the encoder, written from the formats of R81. -/

namespace Sys2Proof

/-! ### Field codes (30_encoding.md R84, R87) -/

/-- The 3-bit register code of 10_state.md R22. UNVERIFIED, unsafe (log entry 21). -/
def Reg.code : Reg → BitVec 3
  | .b => 0b000#3
  | .c => 0b001#3
  | .d => 0b010#3
  | .e => 0b011#3
  | .h => 0b100#3
  | .l => 0b101#3
  | .m => 0b110#3
  | .a => 0b111#3

/-- The register of a 3-bit code (R22). -/
def Reg.ofCode (k : BitVec 3) : Reg :=
  if k = 0b000#3 then .b else if k = 0b001#3 then .c else if k = 0b010#3 then .d
  else if k = 0b011#3 then .e else if k = 0b100#3 then .h else if k = 0b101#3 then .l
  else if k = 0b110#3 then .m else .a

/-- The 2-bit code of a register pair, 10_state.md R24. -/
def RegPair.code : RegPair → BitVec 2
  | .bc => 0b00#2
  | .de => 0b01#2
  | .hl => 0b10#2
  | .sp => 0b11#2

/-- The register pair of a 2-bit code (R24). -/
def RegPair.ofCode (k : BitVec 2) : RegPair :=
  if k = 0b00#2 then .bc else if k = 0b01#2 then .de else if k = 0b10#2 then .hl else .sp

/-- The 2-bit code of a push and pop pair, 10_state.md R25. -/
def PushPair.code : PushPair → BitVec 2
  | .bc => 0b00#2
  | .de => 0b01#2
  | .hl => 0b10#2
  | .psw => 0b11#2

/-- The push and pop pair of a 2-bit code (R25). -/
def PushPair.ofCode (k : BitVec 2) : PushPair :=
  if k = 0b00#2 then .bc else if k = 0b01#2 then .de else if k = 0b10#2 then .hl else .psw

/-- The 3-bit condition code of 10_state.md R29. -/
def Cond.code : Cond → BitVec 3
  | .nz => 0b000#3
  | .z => 0b001#3
  | .nc => 0b010#3
  | .c => 0b011#3
  | .po => 0b100#3
  | .pe => 0b101#3
  | .p => 0b110#3
  | .m => 0b111#3

/-- The condition of a 3-bit code (R29). -/
def Cond.ofCode (k : BitVec 3) : Cond :=
  if k = 0b000#3 then .nz else if k = 0b001#3 then .z else if k = 0b010#3 then .nc
  else if k = 0b011#3 then .c else if k = 0b100#3 then .po else if k = 0b101#3 then .pe
  else if k = 0b110#3 then .p else .m

/-! ### Decoding one opcode byte and its operand bytes (30_encoding.md R85, R94) -/

/-- The MOV block without HLT: class 2 of R85, split into the rows of R110 to R112. -/
def decodeMov (dst src : Reg) : Instr :=
  if src = .m then .movRM dst else if dst = .m then .movMR src else .movRR dst src

/-- The ALU register block: class 3 of R85, operation field of R87. -/
def decodeAluReg (ooo : BitVec 3) (src : Reg) : Instr :=
  if ooo = 0b000#3 then .add src else if ooo = 0b001#3 then .adc src
  else if ooo = 0b010#3 then .sub src else if ooo = 0b011#3 then .sbb src
  else if ooo = 0b100#3 then .ana src else if ooo = 0b101#3 then .xra src
  else if ooo = 0b110#3 then .ora src else .cmp src

/-- The ALU immediate forms `11ooo110` (R87). -/
def decodeAluImm (ooo : BitVec 3) (d8 : Byte) : Instr :=
  if ooo = 0b000#3 then .adi d8 else if ooo = 0b001#3 then .aci d8
  else if ooo = 0b010#3 then .sui d8 else if ooo = 0b011#3 then .sbi d8
  else if ooo = 0b100#3 then .ani d8 else if ooo = 0b101#3 then .xri d8
  else if ooo = 0b110#3 then .ori d8 else .cpi d8

/-- The conditional jump of a condition (43_branch.md R212 to R219). -/
def decodeJcc (cnd : Cond) (addr : Word) : Instr :=
  match cnd with
  | .nz => .jnz addr
  | .z => .jz addr
  | .nc => .jnc addr
  | .c => .jc addr
  | .po => .jpo addr
  | .pe => .jpe addr
  | .p => .jp addr
  | .m => .jm addr

/-- The conditional call of a condition (43_branch.md R222 to R229). -/
def decodeCcc (cnd : Cond) (addr : Word) : Instr :=
  match cnd with
  | .nz => .cnz addr
  | .z => .cz addr
  | .nc => .cnc addr
  | .c => .cc addr
  | .po => .cpo addr
  | .pe => .cpe addr
  | .p => .cp addr
  | .m => .cm addr

/-- The conditional return of a condition (43_branch.md R232 to R239). -/
def decodeRcc (cnd : Cond) : Instr :=
  match cnd with
  | .nz => .rnz
  | .z => .rz
  | .nc => .rnc
  | .c => .rc
  | .po => .rpo
  | .pe => .rpe
  | .p => .rp
  | .m => .rm

/-- MVI: register or memory form (40_data_transfer.md R113, R114). -/
def decodeMvi (dst : Reg) (d8 : Byte) : Instr :=
  if dst = .m then .mviM d8 else .mviR dst d8

/-- PUSH: pair or PSW (44_stack_io_control.md R260, R261). -/
def decodePush (p : PushPair) : Instr :=
  if p = .psw then .pushPsw else .push p

/-- POP: pair or PSW (44_stack_io_control.md R262, R263). -/
def decodePop (p : PushPair) : Instr :=
  if p = .psw then .popPsw else .pop p

/-- NOP of class 1 and class 6 of R85, its seven undocumented duplicates (R89), by their bits 5-3. -/
def decodeNopDup (k : BitVec 3) : Instr :=
  if k = 0b000#3 then .nop else if k = 0b001#3 then .nop08 else if k = 0b010#3 then .nop10
  else if k = 0b011#3 then .nop18 else if k = 0b100#3 then .nop20 else if k = 0b101#3 then .nop28
  else if k = 0b110#3 then .nop30 else .nop38

/-- Class 5 of R85, the opcode values listed one by one in R86 and R88, and, last, the five bytes that no class covers
(R90). Their values are UNVERIFIED, unsafe (log entry 23). -/
def decodeListed (op d8 : Byte) (addr : Word) : Instr :=
  if op = 0x07#8 then .rlc else if op = 0x0F#8 then .rrc
  else if op = 0x17#8 then .ral else if op = 0x1F#8 then .rar
  else if op = 0x27#8 then .daa else if op = 0x2F#8 then .cma
  else if op = 0x37#8 then .stc else if op = 0x3F#8 then .cmc
  else if op = 0x02#8 then .stax .bc else if op = 0x12#8 then .stax .de
  else if op = 0x0A#8 then .ldax .bc else if op = 0x1A#8 then .ldax .de
  else if op = 0x22#8 then .shld addr else if op = 0x2A#8 then .lhld addr
  else if op = 0x32#8 then .sta addr else if op = 0x3A#8 then .lda addr
  else if op = 0xC3#8 then .jmp addr else if op = 0xCD#8 then .call addr
  else if op = 0xC9#8 then .ret else if op = 0xE9#8 then .pchl
  else if op = 0xD3#8 then .outPort d8 else if op = 0xDB#8 then .inPort d8
  else if op = 0xE3#8 then .xthl else if op = 0xEB#8 then .xchg
  else if op = 0xF3#8 then .di else if op = 0xFB#8 then .ei
  else if op = 0xF9#8 then .sphl
  else if op = 0xCB#8 then .illegalCB else if op = 0xD9#8 then .illegalD9
  else if op = 0xDD#8 then .illegalDD else if op = 0xED#8 then .illegalED
  else .illegalFD

/-- Decode (R85): the instruction of an opcode byte and the two bytes after it. The bytes an instruction does not have are
ignored. The classes are tested by the ranges and masks of R85. -/
def decodeOp (op b2 b3 : Byte) : Instr :=
  let ddd := op.extractLsb' 3 3
  let sss := op.extractLsb' 0 3
  let pp := op.extractLsb' 4 2
  let d16 := mkWord b3 b2
  if op &&& 0xC7#8 = 0x00#8 then decodeNopDup ddd
  else if op = 0x76#8 then .hlt
  else if op &&& 0xC0#8 = 0x40#8 then decodeMov (Reg.ofCode ddd) (Reg.ofCode sss)
  else if op &&& 0xC0#8 = 0x80#8 then decodeAluReg ddd (Reg.ofCode sss)
  else if op &&& 0xC7#8 = 0x06#8 then decodeMvi (Reg.ofCode ddd) b2
  else if op &&& 0xC7#8 = 0x04#8 then .inr (Reg.ofCode ddd)
  else if op &&& 0xC7#8 = 0x05#8 then .dcr (Reg.ofCode ddd)
  else if op &&& 0xCF#8 = 0x01#8 then .lxi (RegPair.ofCode pp) d16
  else if op &&& 0xCF#8 = 0x09#8 then .dad (RegPair.ofCode pp)
  else if op &&& 0xCF#8 = 0x03#8 then .inx (RegPair.ofCode pp)
  else if op &&& 0xCF#8 = 0x0B#8 then .dcx (RegPair.ofCode pp)
  else if op &&& 0xCF#8 = 0xC5#8 then decodePush (PushPair.ofCode pp)
  else if op &&& 0xCF#8 = 0xC1#8 then decodePop (PushPair.ofCode pp)
  else if op &&& 0xC7#8 = 0xC2#8 then decodeJcc (Cond.ofCode ddd) d16
  else if op &&& 0xC7#8 = 0xC4#8 then decodeCcc (Cond.ofCode ddd) d16
  else if op &&& 0xC7#8 = 0xC0#8 then decodeRcc (Cond.ofCode ddd)
  else if op &&& 0xC7#8 = 0xC7#8 then .rst ddd
  else if op &&& 0xC7#8 = 0xC6#8 then decodeAluImm ddd b2
  else decodeListed op b2 d16

/-! ### Lengths (30_encoding.md R80, R88) -/

/-- The number of bytes of the instruction whose opcode byte is `op` (R88). -/
def lengthOf (op : Byte) : Nat :=
  if op &&& 0xCF#8 = 0x01#8 then 3                        -- LXI
  else if op &&& 0xC7#8 = 0xC2#8 then 3                   -- Jcc
  else if op &&& 0xC7#8 = 0xC4#8 then 3                   -- Ccc
  else if op = 0xC3#8 ∨ op = 0xCD#8 then 3                -- JMP, CALL
  else if op &&& 0xE7#8 = 0x22#8 then 3                   -- SHLD, LHLD, STA, LDA
  else if op &&& 0xC7#8 = 0x06#8 then 2                   -- MVI
  else if op &&& 0xC7#8 = 0xC6#8 then 2                   -- ALU immediates
  else if op = 0xD3#8 ∨ op = 0xDB#8 then 2                -- OUT, IN
  else 1

/-- Why a list of bytes is no instruction: there is none, or its operand bytes are missing. In the machine neither occurs,
because memory holds a byte at every address (20_memory.md R51). -/
inductive DecodeError where
  | noBytes
  | truncated (op : Byte)
  deriving DecidableEq, Repr

/-- Decode a list of bytes: the instruction at its head and the bytes after it. Total on any list. -/
def decode (bytes : List Byte) : Except DecodeError (Instr × List Byte) :=
  match bytes with
  | [] => .error .noBytes
  | op :: rest =>
    if lengthOf op = 1 then .ok (decodeOp op 0x00#8 0x00#8, rest)
    else if lengthOf op = 2 then
      match rest with
      | b2 :: rest => .ok (decodeOp op b2 0x00#8, rest)
      | [] => .error (.truncated op)
    else
      match rest with
      | b2 :: b3 :: rest => .ok (decodeOp op b2 b3, rest)
      | _ => .error (.truncated op)

/-! ### The encoder (30_encoding.md R81, R84, R88) -/

/-- Format `MOV`: `0 1 d d d s s s` (R81). -/
def opMov (dst src : Reg) : Byte := 0b01#2 ++ dst.code ++ src.code

/-- Format `ALUR`: `1 0 o o o s s s` (R81). -/
def opAluReg (ooo : BitVec 3) (src : Reg) : Byte := 0b10#2 ++ ooo ++ src.code

/-- Formats `REGD` and `REGD_I8`: `0 0 d d d x x x` (R81). -/
def opRegD (dst : Reg) (low : BitVec 3) : Byte := 0b00#2 ++ dst.code ++ low

/-- Formats `RP` and `RP_I16`: `0 0 p p x x x x` (R81). -/
def opPair (p : RegPair) (low : BitVec 4) : Byte := 0b00#2 ++ p.code ++ low

/-- Format `RPS`: `1 1 p p 0 x 0 1` (R81). -/
def opPushPair (p : PushPair) (low : BitVec 4) : Byte := 0b11#2 ++ p.code ++ low

/-- Formats `CC1` and `CC_A16`: `1 1 c c c x x 0` (R81). -/
def opCond (cnd : Cond) (low : BitVec 3) : Byte := 0b11#2 ++ cnd.code ++ low

/-- A three-byte instruction: the low byte of the operand is byte 2, the high byte is byte 3 (R80, R94). -/
def withWord (op : Byte) (v : Word) : List Byte := [op, loByte v, hiByte v]

/-- The bytes of an instruction, by its format and opcode value of R81 and R88. -/
def encode : Instr → List Byte
  | .nop => [0x00#8]
  | .nop08 => [0x08#8]
  | .nop10 => [0x10#8]
  | .nop18 => [0x18#8]
  | .nop20 => [0x20#8]
  | .nop28 => [0x28#8]
  | .nop30 => [0x30#8]
  | .nop38 => [0x38#8]
  | .hlt => [0x76#8]
  | .movRR dst src => [opMov dst src]
  | .movRM dst => [opMov dst .m]
  | .movMR src => [opMov .m src]
  | .mviR dst d8 => [opRegD dst 0b110#3, d8]
  | .mviM d8 => [0x36#8, d8]
  | .lxi p d16 => withWord (opPair p 0b0001#4) d16
  | .lda addr => withWord 0x3A#8 addr
  | .sta addr => withWord 0x32#8 addr
  | .lhld addr => withWord 0x2A#8 addr
  | .shld addr => withWord 0x22#8 addr
  | .ldax p => [opPair p 0b1010#4]
  | .stax p => [opPair p 0b0010#4]
  | .xchg => [0xEB#8]
  | .add src => [opAluReg 0b000#3 src]
  | .adc src => [opAluReg 0b001#3 src]
  | .sub src => [opAluReg 0b010#3 src]
  | .sbb src => [opAluReg 0b011#3 src]
  | .ana src => [opAluReg 0b100#3 src]
  | .xra src => [opAluReg 0b101#3 src]
  | .ora src => [opAluReg 0b110#3 src]
  | .cmp src => [opAluReg 0b111#3 src]
  | .adi d8 => [0xC6#8, d8]
  | .aci d8 => [0xCE#8, d8]
  | .sui d8 => [0xD6#8, d8]
  | .sbi d8 => [0xDE#8, d8]
  | .ani d8 => [0xE6#8, d8]
  | .xri d8 => [0xEE#8, d8]
  | .ori d8 => [0xF6#8, d8]
  | .cpi d8 => [0xFE#8, d8]
  | .inr dst => [opRegD dst 0b100#3]
  | .dcr dst => [opRegD dst 0b101#3]
  | .inx p => [opPair p 0b0011#4]
  | .dcx p => [opPair p 0b1011#4]
  | .dad p => [opPair p 0b1001#4]
  | .daa => [0x27#8]
  | .rlc => [0x07#8]
  | .rrc => [0x0F#8]
  | .ral => [0x17#8]
  | .rar => [0x1F#8]
  | .cma => [0x2F#8]
  | .stc => [0x37#8]
  | .cmc => [0x3F#8]
  | .jmp addr => withWord 0xC3#8 addr
  | .jnz addr => withWord (opCond .nz 0b010#3) addr
  | .jz addr => withWord (opCond .z 0b010#3) addr
  | .jnc addr => withWord (opCond .nc 0b010#3) addr
  | .jc addr => withWord (opCond .c 0b010#3) addr
  | .jpo addr => withWord (opCond .po 0b010#3) addr
  | .jpe addr => withWord (opCond .pe 0b010#3) addr
  | .jp addr => withWord (opCond .p 0b010#3) addr
  | .jm addr => withWord (opCond .m 0b010#3) addr
  | .pchl => [0xE9#8]
  | .call addr => withWord 0xCD#8 addr
  | .cnz addr => withWord (opCond .nz 0b100#3) addr
  | .cz addr => withWord (opCond .z 0b100#3) addr
  | .cnc addr => withWord (opCond .nc 0b100#3) addr
  | .cc addr => withWord (opCond .c 0b100#3) addr
  | .cpo addr => withWord (opCond .po 0b100#3) addr
  | .cpe addr => withWord (opCond .pe 0b100#3) addr
  | .cp addr => withWord (opCond .p 0b100#3) addr
  | .cm addr => withWord (opCond .m 0b100#3) addr
  | .ret => [0xC9#8]
  | .rnz => [opCond .nz 0b000#3]
  | .rz => [opCond .z 0b000#3]
  | .rnc => [opCond .nc 0b000#3]
  | .rc => [opCond .c 0b000#3]
  | .rpo => [opCond .po 0b000#3]
  | .rpe => [opCond .pe 0b000#3]
  | .rp => [opCond .p 0b000#3]
  | .rm => [opCond .m 0b000#3]
  | .rst n => [0b11#2 ++ n ++ 0b111#3]
  | .push p => [opPushPair p 0b0101#4]
  | .pushPsw => [0xF5#8]
  | .pop p => [opPushPair p 0b0001#4]
  | .popPsw => [0xF1#8]
  | .xthl => [0xE3#8]
  | .sphl => [0xF9#8]
  | .inPort port => [0xDB#8, port]
  | .outPort port => [0xD3#8, port]
  | .ei => [0xFB#8]
  | .di => [0xF3#8]
  | .illegalCB => [0xCB#8]
  | .illegalD9 => [0xD9#8]
  | .illegalDD => [0xDD#8]
  | .illegalED => [0xED#8]
  | .illegalFD => [0xFD#8]

/-! ### The opcode table's words -/

/-- The bytes of a table word: bit 0 is the least significant bit of the first byte, every bit above `nbits` is zero, and
the list is as long as the longest instruction. -/
def tableBytes (nbits w : Nat) : List Byte :=
  let v := w % 2 ^ nbits
  [BitVec.ofNat 8 v, BitVec.ofNat 8 (v / 256), BitVec.ofNat 8 (v / 65536)]

/-- What the decoder reads from a table word. -/
def decodeTableWord (nbits w : Nat) : Option Instr :=
  match decode (tableBytes nbits w) with
  | .ok (i, _) => some i
  | .error _ => none

end Sys2Proof
end

