-- ==== Sys2Proof/Config.lean ====
section
/-! DEFINITION. What the environment supplies: the devices of 20_memory.md R64, whose behaviour the spec leaves free, and
the type of the parameter `AC_SUB` of 00_scope.md R7. The decided values of the parameters stand in Machine/Params.lean
and Machine/Cycles.lean. -/

namespace Sys2Proof

/-- The two modes of the auxiliary carry on subtraction (R7, D7). -/
inductive AcSub where
  | carryOut
  | borrow
  deriving DecidableEq, Repr

/-- The name of a device of `DEVICES` (R7). -/
abbrev Config.DeviceId := Nat

/-- The internal state of a device (10_state.md R38), as plain data that only the device functions interpret.
DESIGN CHOICE, safe (log entry 1). -/
abbrev Config.DevState := List Byte

/-- `DEVICES[d].read` (20_memory.md R62, R64): what device `d` in its state answers to a read of a port, and its
state afterwards. It has no body, because the spec does not constrain it. -/
opaque Config.deviceRead : Config.DeviceId → Config.DevState → Byte → Byte × Config.DevState

/-- `DEVICES[d].write` (20_memory.md R63, R64): the state of device `d` after a write of a value to a port. It has no
body, because the spec does not constrain it. -/
opaque Config.deviceWrite : Config.DeviceId → Config.DevState → Byte → Byte → Config.DevState

end Sys2Proof
end

