-- ==== Sys2Proof/Machine/Params.lean ====
section
/-! DEFINITION. The decided values of the parameters of 00_scope.md R7, but for `CYCLES`, which is Machine/Cycles.lean. -/

namespace Sys2Proof.Machine

/-- `AC_SUB` (D7). UNVERIFIED, unsafe (log entry 8). -/
def acSub : AcSub := .carryOut

/-- `INT_CYCLES`, the cycle count of an interrupt-delivery step (D5). UNVERIFIED, unsafe (log entry 6). -/
def intCycles : Nat := 11

/-- `TIMER_PORT_LO` (D6, 60_exceptions.md R320). UNVERIFIED, unsafe (log entry 7). -/
def timerPortLo : Byte := 0x30#8

/-- `TIMER_PORT_HI` (D6, R320). -/
def timerPortHi : Byte := 0x31#8

/-- `TIMER_PORT_CTL` (D6, R320). -/
def timerPortCtl : Byte := 0x32#8

/-- The fixed interrupt vector (60_exceptions.md R305). -/
def interruptVector : Word := 0x0038#16

end Sys2Proof.Machine
end

