-- ==== Sys2Proof/Machine/Flags.lean ====
section
/-! DEFINITION. The flags byte and the ALU/flags unit: 10_state.md R26 to R29, 41_arithmetic.md R140 to R143 and R158. -/

namespace Sys2Proof.Machine

/-! ### The flags byte (10_state.md R26). The bit positions are UNVERIFIED (B1), unsafe (log entry 20). -/

/-- `FLAGS.S`, bit 7. -/
def flagS (f : Byte) : Bool := f.getLsbD 7

/-- `FLAGS.Z`, bit 6. -/
def flagZ (f : Byte) : Bool := f.getLsbD 6

/-- `FLAGS.AC`, bit 4. -/
def flagAC (f : Byte) : Bool := f.getLsbD 4

/-- `FLAGS.P`, bit 2. -/
def flagP (f : Byte) : Bool := f.getLsbD 2

/-- `FLAGS.C`, bit 0. -/
def flagC (f : Byte) : Bool := f.getLsbD 0

/-- `norm(v)` (R27): bits 3 and 5 cleared, bit 1 set. -/
def norm (v : Byte) : Byte := (v &&& 0xD7#8) ||| 0x02#8

/-- `FLAGS.C <- cy`: only bit 0 changes. -/
def setFlagC (f : Byte) (cy : Bool) : Byte := (f &&& 0xFE#8) ||| (if cy then 0x01#8 else 0x00#8)

/-- `cond(c)` (R29): the flag test of a condition. UNVERIFIED (B2), unsafe (log entry 20). -/
def condHolds (cnd : Cond) (f : Byte) : Bool :=
  match cnd with
  | .nz => !flagZ f
  | .z => flagZ f
  | .nc => !flagC f
  | .c => flagC f
  | .po => !flagP f
  | .pe => flagP f
  | .p => !flagS f
  | .m => flagS f

/-! ### The flag builders (41_arithmetic.md) -/

/-- `flags_arith(r, cy, ac)` (R140). -/
def flagsArith (r : Byte) (cy ac : Bool) : Byte :=
  0x02#8 ||| (if r = 0x00#8 then 0x40#8 else 0x00#8) ||| (if r.getLsbD 7 then 0x80#8 else 0x00#8) |||
    (if parityEven r then 0x04#8 else 0x00#8) ||| (if cy then 0x01#8 else 0x00#8) |||
    (if ac then 0x10#8 else 0x00#8)

/-- `flags_logic(r)` (R141). -/
def flagsLogic (r : Byte) : Byte := flagsArith r false false

/-- What an 8-bit addition or subtraction gives: result, carry, auxiliary carry. -/
structure AluResult where
  r : Byte
  cy : Bool
  ac : Bool
  deriving DecidableEq, Repr

/-- The low nibble of a byte, as a number. -/
def lowNibble (v : Byte) : Nat := v.toNat % 16

/-- The high nibble of a byte, as a number. -/
def highNibble (v : Byte) : Nat := v.toNat / 16

/-- `add8(a, v, cin)` (R142). UNVERIFIED carries (B11), unsafe (log entry 8). -/
def add8 (a v : Byte) (cin : Bool) : AluResult :=
  let w := a.toNat + v.toNat + cin.toNat
  { r := BitVec.ofNat 8 w
    cy := decide (0xFF < w)
    ac := decide (0x0F < lowNibble a + lowNibble v + cin.toNat) }

/-- `sub8(a, v, bin)` (R143) in either mode of `AC_SUB`. -/
def sub8In (mode : AcSub) (a v : Byte) (bin : Bool) : AluResult :=
  { r := a - v - (if bin then 0x01#8 else 0x00#8)
    cy := decide (a.toNat < v.toNat + bin.toNat)
    ac :=
      match mode with
      | .carryOut => decide (lowNibble v + bin.toNat ≤ lowNibble a)
      | .borrow => decide (lowNibble a < lowNibble v + bin.toNat) }

/-- `sub8(a, v, bin)` (R143) with the decided `AC_SUB`. UNVERIFIED (B11, D7), unsafe (log entry 8). -/
def sub8 (a v : Byte) (bin : Bool) : AluResult := sub8In acSub a v bin

/-- The correction DAA adds to A and the carry it leaves (R158, C1): every nibble test is on A before the adjustment. -/
def daaLow (a f : Byte) : Byte :=
  if 9 < lowNibble a ∨ flagAC f = true then 0x06#8 else 0x00#8

/-- The high-nibble condition of DAA (R158, C1). UNVERIFIED reading, unsafe (log entry 12). -/
def daaHighDue (a f : Byte) : Bool :=
  decide (9 < highNibble a) || flagC f || (decide (9 ≤ highNibble a) && decide (9 < lowNibble a))

/-- `corr` of R158. -/
def daaCorr (a f : Byte) : Byte := daaLow a f + (if daaHighDue a f then 0x60#8 else 0x00#8)

/-- The result, carry and auxiliary carry of DAA (R158, D11). -/
def daaResult (a f : Byte) : AluResult :=
  { r := a + daaCorr a f
    cy := flagC f || daaHighDue a f
    ac := decide (0x0F < lowNibble a + lowNibble (daaCorr a f)) }

end Sys2Proof.Machine
end

