-- ==== Sys2Proof/Machine/Sparse.lean ====
section
/-! DEFINITION. Sparse tables keyed by a natural number: lists of key and value pairs that leave out every key holding a
default value. MEM, IOTAB and DEVSTATE of 10_state.md R20 are such tables (log entry 2). -/

namespace Sys2Proof.Machine

/-- What the table holds at a key; `dflt` where the key is not listed. -/
def Sparse.get {α : Type} (dflt : α) : List (Nat × α) → Nat → α
  | [], _ => dflt
  | (k, v) :: rest, x => if k = x then v else Sparse.get dflt rest x

/-- The table without a key. -/
def Sparse.erase {α : Type} : List (Nat × α) → Nat → List (Nat × α)
  | [], _ => []
  | (k, v) :: rest, x => if k = x then Sparse.erase rest x else (k, v) :: Sparse.erase rest x

/-- The table with a pair put before the first greater key. -/
def Sparse.insert {α : Type} : List (Nat × α) → Nat → α → List (Nat × α)
  | [], x, w => [(x, w)]
  | (k, v) :: rest, x, w =>
    if x < k then (x, w) :: (k, v) :: rest else (k, v) :: Sparse.insert rest x w

/-- The table holding `w` at `x` and what it held elsewhere. -/
def Sparse.set {α : Type} [DecidableEq α] (dflt : α) (t : List (Nat × α)) (x : Nat) (w : α) : List (Nat × α) :=
  if w = dflt then Sparse.erase t x else Sparse.insert (Sparse.erase t x) x w

/-- Every key of the table is greater than `k`. -/
def Sparse.above {α : Type} (k : Nat) (t : List (Nat × α)) : Bool := t.all fun cell => k < cell.1

/-- Every key of the table is less than `n`. -/
def Sparse.below {α : Type} (n : Nat) (t : List (Nat × α)) : Bool := t.all fun cell => cell.1 < n

/-- The canonical form: keys strictly rising and no default value listed. -/
def Sparse.canonical {α : Type} [DecidableEq α] (dflt : α) : List (Nat × α) → Bool
  | [] => true
  | (k, v) :: rest => v ≠ dflt && Sparse.above k rest && Sparse.canonical dflt rest

end Sys2Proof.Machine
end

