-- ==== Sys2Proof/Machine/State.lean ====
section
/-! DEFINITION. The state of the machine, 10_state.md R20, as plain data; its value after construction, R40; and the
reasons a step can stop. -/

namespace Sys2Proof.Machine

/-- MEM (R36): the bytes that differ from what an unlisted address reads as, by rising address (log entry 2). -/
abbrev Memory := List Host.Cell

/-- IOTAB (R35): the bound ports, by rising port number (log entry 2). -/
abbrev PortTable := List (Nat × Option Config.DeviceId)

/-- DEVSTATE (R38): the devices that have left their initial state, by rising device id (log entries 1 and 2). -/
abbrev DeviceTable := List (Nat × Config.DevState)

/-- The complete state of the machine (R20): nothing else persists from one step to the next. -/
structure State where
  /-- A, the accumulator (R21). -/
  a : Byte
  /-- B (R21). -/
  b : Byte
  /-- C (R21). -/
  c : Byte
  /-- D (R21). -/
  d : Byte
  /-- E (R21). -/
  e : Byte
  /-- H (R21). -/
  h : Byte
  /-- L (R21). -/
  l : Byte
  /-- FLAGS, the flags byte (R26). -/
  flags : Byte
  /-- SP (R31). -/
  sp : Word
  /-- PC (R30). -/
  pc : Word
  /-- INTE, `interrupts_enabled` (R32). -/
  inte : Bool
  /-- HALTED (R33). -/
  halted : Bool
  /-- MEM (R36). -/
  mem : Memory
  /-- IOTAB, the port bindings (R35). -/
  ioTab : PortTable
  /-- T_COUNTER, the live down-counter (R34). -/
  tCounter : Word
  /-- T_RELOAD (R34). -/
  tReload : Word
  /-- T_ENABLED (R34). -/
  tEnabled : Bool
  /-- T_PENDING, the machine's only interrupt-pending bit (R34). -/
  tPending : Bool
  /-- CYCLES_TOTAL, an unbounded natural number (R37). -/
  cyclesTotal : Nat
  /-- DEVSTATE (R38). -/
  devState : DeviceTable
  deriving DecidableEq, Repr

/-- The state after construction (R40, R350). -/
def State.reset : State :=
  { a := 0x00#8, b := 0x00#8, c := 0x00#8, d := 0x00#8, e := 0x00#8, h := 0x00#8, l := 0x00#8
    flags := 0x02#8
    sp := 0x0000#16
    pc := 0x0000#16
    inte := false
    halted := false
    mem := []
    ioTab := []
    tCounter := 0x0000#16
    tReload := 0x0000#16
    tEnabled := false
    tPending := false
    cyclesTotal := 0
    devState := [] }

/-- Why the machine stops. -/
inductive Fault where
  /-- `IllegalOpcode(op, at)` (60_exceptions.md R310): raised by the five illegal opcode bytes, with the byte and the address
  it was fetched from. It is the fault the spec gives, so it is safe. -/
  | illegalOpcode (op : Byte) (fetchedAt : Word)
  /-- The halted machine has no step (R340, R16): answered by `step` in every state with HALTED set. A stuck state, safe. -/
  | halted
  deriving DecidableEq, Repr

/-- Why the model gives a step no meaning. -/
inductive Refusal where
  /-- An instruction whose meaning is not written. Only an arm of `exec` raises it, and in this model no arm does. Safe. -/
  | notModelled (mnemonic : String)
  deriving DecidableEq, Repr

end Sys2Proof.Machine
end

