-- ==== Sys2Proof/Machine/Ops.lean ====
section
/-! DEFINITION. Memory, the stack, fetching, the interrupt entry and the illegal-opcode fault: 20_memory.md R52, R53, R56,
R57, 30_encoding.md R82, R83, 60_exceptions.md R302, R305, R310. -/

namespace Sys2Proof.Machine

/-! ### Memory (20_memory.md) -/

/-- What an unlisted address of MEM reads as: memory is zeroed at construction (10_state.md R40). -/
def Memory.unlisted : Byte := 0x00#8

/-- MEM is in its canonical form and every listed address is one of the 65536 (R50). -/
def Memory.wf (m : Memory) : Bool := Sparse.canonical Memory.unlisted m && Sparse.below 65536 m

/-- `MemRead(addr, 1)` (R52). -/
def State.memRead (s : State) (addr : Word) : Byte := Sparse.get Memory.unlisted s.mem addr.toNat

/-- `MemWrite(addr, 1, v)` (R53). -/
def State.memWrite (s : State) (addr : Word) (v : Byte) : State :=
  { s with mem := Sparse.set Memory.unlisted s.mem addr.toNat v }

/-- `MemRead(addr, 2)` (R52): the byte at `addr` is the low byte, and `addr + 1` wraps. UNVERIFIED byte order (B5), unsafe
(log entry 22). -/
def State.memRead16 (s : State) (addr : Word) : Word := mkWord (s.memRead (addr + 1)) (s.memRead addr)

/-- `MemWrite(addr, 2, v)` (R53): the low byte at `addr`, then the high byte at `addr + 1`. -/
def State.memWrite16 (s : State) (addr v : Word) : State :=
  (s.memWrite addr (loByte v)).memWrite (addr + 1) (hiByte v)

/-! ### The stack -/

/-- `Push16(v)` (R56): the high byte to SP - 1, then the low byte to SP - 2, then SP down by two. UNVERIFIED byte order (B5),
unsafe (log entry 22). -/
def State.push16 (s : State) (v : Word) : State :=
  let t := (s.memWrite (s.sp - 1) (hiByte v)).memWrite (s.sp - 2) (loByte v)
  { t with sp := s.sp - 2 }

/-- The value `Pop16()` answers (R57). -/
def State.popValue (s : State) : Word := mkWord (s.memRead (s.sp + 1)) (s.memRead s.sp)

/-- The state `Pop16()` leaves (R57): SP up by two. -/
def State.popped (s : State) : State := { s with sp := s.sp + 2 }

/-! ### Fetching (30_encoding.md) -/

/-- PC past `n` fetched bytes (R82, 10_state.md R30), modulo 65536. -/
def State.advance (s : State) (n : Nat) : State := { s with pc := s.pc + BitVec.ofNat 16 n }

/-- PC set to a target (43_branch.md R209). -/
def State.jumpTo (s : State) (target : Word) : State := { s with pc := target }

/-! ### Calls and the interrupt entry -/

/-- PC pushed and control given to a target: the body of CALL and RST (43_branch.md R220, R250). -/
def State.callTo (s : State) (target : Word) : State := (s.push16 s.pc).jumpTo target

/-- `PC <- Pop16()`: the return from a call and from an interrupt handler (43_branch.md R230, 60_exceptions.md R307). -/
def State.returnFromCall (s : State) : State := s.popped.jumpTo s.popValue

/-- An interrupt is delivered at this step (60_exceptions.md R302). -/
def State.interruptDue (s : State) : Bool := s.inte && s.tPending

/-- `deliver_interrupt()` (R305), the one trap entry of the machine. -/
def State.deliverInterrupt (s : State) : State :=
  let t := { s with inte := false }
  let t := (t.push16 t.pc).jumpTo interruptVector
  { t with tPending := false }

/-- `raise IllegalOpcode(op, at)` (R310). `s` is the state before the fetch, so its PC is the address of the byte. -/
def raiseIllegalOpcode (op : Byte) (s : State) : Host.Outcome State Fault Refusal :=
  .fault (.illegalOpcode op s.pc)

end Sys2Proof.Machine
end

