-- ==== Sys2Proof/Machine/Operands.lean ====
section
/-! DEFINITION. The register file and every operand form: 10_state.md R22 to R25 and R28, 30_encoding.md R94. -/

namespace Sys2Proof.Machine

/-- HL = {H, L} (R24). -/
def State.hl (s : State) : Word := mkWord s.h s.l

/-- `reg8_read(c)` (R23): the register, or memory at HL for M. -/
def State.reg (s : State) (r : Reg) : Byte :=
  match r with
  | .b => s.b
  | .c => s.c
  | .d => s.d
  | .e => s.e
  | .h => s.h
  | .l => s.l
  | .m => s.memRead s.hl
  | .a => s.a

/-- `reg8_write(c, v)` (R23). -/
def State.setReg (s : State) (r : Reg) (v : Byte) : State :=
  match r with
  | .b => { s with b := v }
  | .c => { s with c := v }
  | .d => { s with d := v }
  | .e => { s with e := v }
  | .h => { s with h := v }
  | .l => { s with l := v }
  | .m => s.memWrite s.hl v
  | .a => { s with a := v }

/-- `rp[c]` (R24): the first-named register is the high byte. UNVERIFIED for BC and DE (B4), unsafe (log entry 21). -/
def State.pair (s : State) (p : RegPair) : Word :=
  match p with
  | .bc => mkWord s.b s.c
  | .de => mkWord s.d s.e
  | .hl => s.hl
  | .sp => s.sp

/-- `rp[c] <- v` (R24). -/
def State.setPair (s : State) (p : RegPair) (v : Word) : State :=
  match p with
  | .bc => { s with b := hiByte v, c := loByte v }
  | .de => { s with d := hiByte v, e := loByte v }
  | .hl => { s with h := hiByte v, l := loByte v }
  | .sp => { s with sp := v }

/-- PSW, packed: `{A, norm(FLAGS)}` (R28). -/
def State.psw (s : State) : Word := mkWord s.a (norm s.flags)

/-- `PSW <- v`, unpacked (R28). -/
def State.setPsw (s : State) (v : Word) : State := { s with a := hiByte v, flags := norm (loByte v) }

/-- `rps[c]` (R25). -/
def State.pushPair (s : State) (p : PushPair) : Word :=
  match p with
  | .bc => s.pair .bc
  | .de => s.pair .de
  | .hl => s.pair .hl
  | .psw => s.psw

/-- `rps[c] <- v` (R25). -/
def State.setPushPair (s : State) (p : PushPair) (v : Word) : State :=
  match p with
  | .bc => s.setPair .bc v
  | .de => s.setPair .de v
  | .hl => s.setPair .hl v
  | .psw => s.setPsw v

/-- `cond(c)` in a state (R29). -/
def State.cond (s : State) (cnd : Cond) : Bool := condHolds cnd s.flags

end Sys2Proof.Machine
end

