-- ==== Sys2Proof/Machine/Alu.lean ====
section
/-! DEFINITION. The operations on A that the register and the immediate forms share: 41_arithmetic.md R145 to R148,
42_logical.md R180 to R183, and the writing of C alone. -/

namespace Sys2Proof.Machine

/-- `A <- r`; `FLAGS <- flags_arith(r, cy, ac)`. -/
def State.setAlu (s : State) (x : AluResult) : State := { s with a := x.r, flags := flagsArith x.r x.cy x.ac }

/-- ADD and ADC of a value (R145, R146). -/
def State.addToA (s : State) (v : Byte) (cin : Bool) : State := s.setAlu (add8 s.a v cin)

/-- SUB and SBB of a value (R147, R148). -/
def State.subFromA (s : State) (v : Byte) (bin : Bool) : State := s.setAlu (sub8 s.a v bin)

/-- CMP of a value (R183): the flags of SUB, A kept. -/
def State.compareA (s : State) (v : Byte) : State :=
  let x := sub8 s.a v false
  { s with flags := flagsArith x.r x.cy x.ac }

/-- `A <- r`; `FLAGS <- flags_logic(r)`. -/
def State.setLogic (s : State) (r : Byte) : State := { s with a := r, flags := flagsLogic r }

/-- `FLAGS.C <- cy`. -/
def State.setCarry (s : State) (cy : Bool) : State := { s with flags := setFlagC s.flags cy }

/-- `FLAGS <- (flags_arith(r, false, ac) & 0xFE) | c0` with `c0` the carry before (R153, R154). -/
def State.setFlagsKeepCarry (s : State) (r : Byte) (ac : Bool) : State :=
  { s with flags := setFlagC (flagsArith r false ac) (flagC s.flags) }

end Sys2Proof.Machine
end

