-- ==== Sys2Proof/Machine/Timer.lean ====
section
/-! DEFINITION. The timer countdown unit, 60_exceptions.md R320 to R325, and the accounting of a step, R301. -/

namespace Sys2Proof.Machine

/-- The port is one of the three the timer answers (20_memory.md R61). -/
def isTimerPort (port : Byte) : Bool := port == timerPortLo || port == timerPortHi || port == timerPortCtl

/-- `TimerRead(port)` (R321). What ports 0x30 and 0x31 and bits 7 to 2 of 0x32 read as is UNVERIFIED (D15, D16), unsafe
(log entry 16). -/
def State.timerRead (s : State) (port : Byte) : Byte :=
  if port = timerPortLo then loByte s.tReload
  else if port = timerPortHi then hiByte s.tReload
  else (if s.tPending then 0x02#8 else 0x00#8) ||| (if s.tEnabled then 0x01#8 else 0x00#8)

/-- The write to the low reload port (R322). -/
def State.timerWriteLo (s : State) (v : Byte) : State := { s with tReload := mkWord (hiByte s.tReload) v }

/-- The write to the high reload port (R323), which arms the counter. UNVERIFIED (D17), unsafe (log entry 17). -/
def State.timerWriteHi (s : State) (v : Byte) : State :=
  let reload := mkWord v (loByte s.tReload)
  { s with tReload := reload, tCounter := reload }

/-- The write to the control port (R324). That enabling does not load the counter is UNVERIFIED (D18), unsafe (log entry 17). -/
def State.timerWriteCtl (s : State) (v : Byte) : State :=
  { s with tEnabled := v.getLsbD 0, tPending := if v.getLsbD 1 then false else s.tPending }

/-- `TimerWrite(port, v)` (20_memory.md R63). -/
def State.timerWrite (s : State) (port v : Byte) : State :=
  if port = timerPortLo then s.timerWriteLo v
  else if port = timerPortHi then s.timerWriteHi v
  else s.timerWriteCtl v

/-- `tick(n)` (R325). -/
def State.tick (s : State) (n : Nat) : State :=
  if s.tEnabled = false ∨ s.tReload = 0x0000#16 then s
  else if s.tCounter.toNat ≤ n then { s with tCounter := s.tReload, tPending := true }
  else { s with tCounter := s.tCounter - BitVec.ofNat 16 n }

/-- The end of a step of `n` cycles (R300, R301): the count is added to the total and then ticked. -/
def State.account (s : State) (n : Nat) : State := { s with cyclesTotal := s.cyclesTotal + n }.tick n

end Sys2Proof.Machine
end

