-- ==== Sys2Proof/Machine/Cycles.lean ====
section
/-! DEFINITION. The parameter `CYCLES`, the table of 70_reset_and_hazards.md R363, and the end every instruction shares. -/

namespace Sys2Proof.Machine

/-- A count that depends on whether the operand is a register or M. -/
def cyclesByOperand (r : Reg) (register memory : Nat) : Nat := if r = .m then memory else register

/-- A count that depends on whether a transfer is taken. -/
def cyclesByTaken (taken : Bool) (yes no : Nat) : Nat := if taken then yes else no

/-- `CYCLES(op, taken)` (R363). The counts marked "gk" there are UNVERIFIED (D4, B13), unsafe (log entry 5). The illegal
bytes have no count: their steps fault before any accounting, and the zero here is read by nothing. -/
def cyclesOf (i : Instr) (taken : Bool) : Nat :=
  match i with
  | .nop | .nop08 | .nop10 | .nop18 | .nop20 | .nop28 | .nop30 | .nop38 => 4
  | .hlt => 7
  | .movRR _ _ => 5
  | .movRM _ => 7
  | .movMR _ => 7
  | .mviR _ _ => 7
  | .mviM _ => 10
  | .lxi _ _ => 10
  | .lda _ => 13
  | .sta _ => 13
  | .lhld _ => 16
  | .shld _ => 16
  | .ldax _ => 7
  | .stax _ => 7
  | .xchg => 4
  | .add r => cyclesByOperand r 4 7
  | .adc r => cyclesByOperand r 4 7
  | .sub r => cyclesByOperand r 4 7
  | .sbb r => cyclesByOperand r 4 7
  | .ana r => cyclesByOperand r 4 7
  | .xra r => cyclesByOperand r 4 7
  | .ora r => cyclesByOperand r 4 7
  | .cmp r => cyclesByOperand r 4 7
  | .adi _ => 7
  | .aci _ => 7
  | .sui _ => 7
  | .sbi _ => 7
  | .ani _ => 7
  | .xri _ => 7
  | .ori _ => 7
  | .cpi _ => 7
  | .inr r => cyclesByOperand r 5 10
  | .dcr r => cyclesByOperand r 5 10
  | .inx _ => 5
  | .dcx _ => 5
  | .dad _ => 10
  | .daa => 4
  | .rlc | .rrc | .ral | .rar => 4
  | .cma | .stc | .cmc => 4
  | .jmp _ => 10
  | .jnz _ | .jz _ | .jnc _ | .jc _ | .jpo _ | .jpe _ | .jp _ | .jm _ => 10
  | .pchl => 5
  | .call _ => 17
  | .cnz _ | .cz _ | .cnc _ | .cc _ | .cpo _ | .cpe _ | .cp _ | .cm _ => cyclesByTaken taken 17 11
  | .ret => 10
  | .rnz | .rz | .rnc | .rc | .rpo | .rpe | .rp | .rm => cyclesByTaken taken 11 5
  | .rst _ => 11
  | .push _ => 11
  | .pushPsw => 11
  | .pop _ => 10
  | .popPsw => 10
  | .xthl => 18
  | .sphl => 5
  | .inPort _ => 10
  | .outPort _ => 10
  | .ei => 4
  | .di => 4
  | .illegalCB | .illegalD9 | .illegalDD | .illegalED | .illegalFD => 0

/-- The end of an instruction (60_exceptions.md R300): its state with the cycles of the step accounted. -/
def complete (i : Instr) (taken : Bool) (s : State) : Host.Outcome State Fault Refusal :=
  .next (s.account (cyclesOf i taken))

end Sys2Proof.Machine
end

