-- ==== Sys2Proof/Machine/Arithmetic.lean ====
section
/-! DEFINITION. The arithmetic instructions, 41_arithmetic.md R145 to R158. -/

namespace Sys2Proof.Machine

/-- ADD s (R145). -/
def execAdd (src : Reg) (s : State) : Host.Outcome State Fault Refusal :=
  complete (.add src) false ((s.advance 1).addToA (s.reg src) false)

/-- ADC s (R146). -/
def execAdc (src : Reg) (s : State) : Host.Outcome State Fault Refusal :=
  complete (.adc src) false ((s.advance 1).addToA (s.reg src) (flagC s.flags))

/-- SUB s (R147). -/
def execSub (src : Reg) (s : State) : Host.Outcome State Fault Refusal :=
  complete (.sub src) false ((s.advance 1).subFromA (s.reg src) false)

/-- SBB s (R148). -/
def execSbb (src : Reg) (s : State) : Host.Outcome State Fault Refusal :=
  complete (.sbb src) false ((s.advance 1).subFromA (s.reg src) (flagC s.flags))

/-- ADI d8 (R149). -/
def execAdi (d8 : Byte) (s : State) : Host.Outcome State Fault Refusal :=
  complete (.adi d8) false ((s.advance 2).addToA d8 false)

/-- ACI d8 (R150). -/
def execAci (d8 : Byte) (s : State) : Host.Outcome State Fault Refusal :=
  complete (.aci d8) false ((s.advance 2).addToA d8 (flagC s.flags))

/-- SUI d8 (R151). -/
def execSui (d8 : Byte) (s : State) : Host.Outcome State Fault Refusal :=
  complete (.sui d8) false ((s.advance 2).subFromA d8 false)

/-- SBI d8 (R152). -/
def execSbi (d8 : Byte) (s : State) : Host.Outcome State Fault Refusal :=
  complete (.sbi d8) false ((s.advance 2).subFromA d8 (flagC s.flags))

/-- INR d (R153): the result and auxiliary carry of adding one, C kept. -/
def execInr (dst : Reg) (s : State) : Host.Outcome State Fault Refusal :=
  let x := add8 (s.reg dst) 0x01#8 false
  complete (.inr dst) false (((s.advance 1).setReg dst x.r).setFlagsKeepCarry x.r x.ac)

/-- DCR d (R154): the result and auxiliary carry of subtracting one, C kept. -/
def execDcr (dst : Reg) (s : State) : Host.Outcome State Fault Refusal :=
  let x := sub8 (s.reg dst) 0x01#8 false
  complete (.dcr dst) false (((s.advance 1).setReg dst x.r).setFlagsKeepCarry x.r x.ac)

/-- INX p (R155). -/
def execInx (p : RegPair) (s : State) : Host.Outcome State Fault Refusal :=
  complete (.inx p) false ((s.advance 1).setPair p (s.pair p + 1))

/-- DCX p (R156). -/
def execDcx (p : RegPair) (s : State) : Host.Outcome State Fault Refusal :=
  complete (.dcx p) false ((s.advance 1).setPair p (s.pair p - 1))

/-- DAD p (R157): HL plus the pair, C the carry out of bit 15. -/
def execDad (p : RegPair) (s : State) : Host.Outcome State Fault Refusal :=
  let w := s.hl.toNat + (s.pair p).toNat
  complete (.dad p) false (((s.advance 1).setPair .hl (BitVec.ofNat 16 w)).setCarry (decide (0xFFFF < w)))

/-- DAA (R158). -/
def execDaa (s : State) : Host.Outcome State Fault Refusal :=
  complete .daa false ((s.advance 1).setAlu (daaResult s.a s.flags))

end Sys2Proof.Machine
end

