-- ==== Sys2Proof/Machine/Branch.lean ====
section
/-! DEFINITION. The control transfer instructions, 43_branch.md R209 to R239, R250 and R251. -/

namespace Sys2Proof.Machine

/-! ### Jumps -/

/-- `if cond(ccc) then PC <- addr` after the whole operand was fetched (R211). -/
def State.jumpIf (s : State) (cnd : Cond) (addr : Word) : State := if s.cond cnd then s.jumpTo addr else s

/-- JMP a16 (R210). UNVERIFIED semantics (B8), unsafe (log entry 24). -/
def execJmp (addr : Word) (s : State) : Host.Outcome State Fault Refusal :=
  complete (.jmp addr) true ((s.advance 3).jumpTo addr)

/-- JNZ a16 (R212): taken iff Z == 0. -/
def execJnz (addr : Word) (s : State) : Host.Outcome State Fault Refusal :=
  complete (.jnz addr) (s.cond .nz) ((s.advance 3).jumpIf .nz addr)

/-- JZ a16 (R213): taken iff Z == 1. -/
def execJz (addr : Word) (s : State) : Host.Outcome State Fault Refusal :=
  complete (.jz addr) (s.cond .z) ((s.advance 3).jumpIf .z addr)

/-- JNC a16 (R214): taken iff C == 0. -/
def execJnc (addr : Word) (s : State) : Host.Outcome State Fault Refusal :=
  complete (.jnc addr) (s.cond .nc) ((s.advance 3).jumpIf .nc addr)

/-- JC a16 (R215): taken iff C == 1. -/
def execJc (addr : Word) (s : State) : Host.Outcome State Fault Refusal :=
  complete (.jc addr) (s.cond .c) ((s.advance 3).jumpIf .c addr)

/-- JPO a16 (R216): taken iff P == 0. -/
def execJpo (addr : Word) (s : State) : Host.Outcome State Fault Refusal :=
  complete (.jpo addr) (s.cond .po) ((s.advance 3).jumpIf .po addr)

/-- JPE a16 (R217): taken iff P == 1. -/
def execJpe (addr : Word) (s : State) : Host.Outcome State Fault Refusal :=
  complete (.jpe addr) (s.cond .pe) ((s.advance 3).jumpIf .pe addr)

/-- JP a16 (R218): taken iff S == 0. -/
def execJp (addr : Word) (s : State) : Host.Outcome State Fault Refusal :=
  complete (.jp addr) (s.cond .p) ((s.advance 3).jumpIf .p addr)

/-- JM a16 (R219): taken iff S == 1. -/
def execJm (addr : Word) (s : State) : Host.Outcome State Fault Refusal :=
  complete (.jm addr) (s.cond .m) ((s.advance 3).jumpIf .m addr)

/-- PCHL (R251). UNVERIFIED semantics (B8), unsafe (log entry 24). -/
def execPchl (s : State) : Host.Outcome State Fault Refusal :=
  complete .pchl true ((s.advance 1).jumpTo s.hl)

/-! ### Calls -/

/-- `if cond(ccc) then { Push16(PC); PC <- addr }` (R221). -/
def State.callIf (s : State) (cnd : Cond) (addr : Word) : State := if s.cond cnd then s.callTo addr else s

/-- CALL a16 (R220). UNVERIFIED semantics (B8), unsafe (log entry 24). -/
def execCall (addr : Word) (s : State) : Host.Outcome State Fault Refusal :=
  complete (.call addr) true ((s.advance 3).callTo addr)

/-- CNZ a16 (R222): taken iff Z == 0. -/
def execCnz (addr : Word) (s : State) : Host.Outcome State Fault Refusal :=
  complete (.cnz addr) (s.cond .nz) ((s.advance 3).callIf .nz addr)

/-- CZ a16 (R223): taken iff Z == 1. -/
def execCz (addr : Word) (s : State) : Host.Outcome State Fault Refusal :=
  complete (.cz addr) (s.cond .z) ((s.advance 3).callIf .z addr)

/-- CNC a16 (R224): taken iff C == 0. -/
def execCnc (addr : Word) (s : State) : Host.Outcome State Fault Refusal :=
  complete (.cnc addr) (s.cond .nc) ((s.advance 3).callIf .nc addr)

/-- CC a16 (R225): taken iff C == 1. -/
def execCc (addr : Word) (s : State) : Host.Outcome State Fault Refusal :=
  complete (.cc addr) (s.cond .c) ((s.advance 3).callIf .c addr)

/-- CPO a16 (R226): taken iff P == 0. -/
def execCpo (addr : Word) (s : State) : Host.Outcome State Fault Refusal :=
  complete (.cpo addr) (s.cond .po) ((s.advance 3).callIf .po addr)

/-- CPE a16 (R227): taken iff P == 1. -/
def execCpe (addr : Word) (s : State) : Host.Outcome State Fault Refusal :=
  complete (.cpe addr) (s.cond .pe) ((s.advance 3).callIf .pe addr)

/-- CP a16 (R228): taken iff S == 0. -/
def execCp (addr : Word) (s : State) : Host.Outcome State Fault Refusal :=
  complete (.cp addr) (s.cond .p) ((s.advance 3).callIf .p addr)

/-- CM a16 (R229): taken iff S == 1. -/
def execCm (addr : Word) (s : State) : Host.Outcome State Fault Refusal :=
  complete (.cm addr) (s.cond .m) ((s.advance 3).callIf .m addr)

/-! ### Returns -/

/-- `if cond(ccc) then PC <- Pop16()` (R231). -/
def State.returnIf (s : State) (cnd : Cond) : State := if s.cond cnd then s.returnFromCall else s

/-- RET (R230). UNVERIFIED semantics (B8), unsafe (log entry 24). -/
def execRet (s : State) : Host.Outcome State Fault Refusal :=
  complete .ret true (s.advance 1).returnFromCall

/-- RNZ (R232): taken iff Z == 0. -/
def execRnz (s : State) : Host.Outcome State Fault Refusal :=
  complete .rnz (s.cond .nz) ((s.advance 1).returnIf .nz)

/-- RZ (R233): taken iff Z == 1. -/
def execRz (s : State) : Host.Outcome State Fault Refusal :=
  complete .rz (s.cond .z) ((s.advance 1).returnIf .z)

/-- RNC (R234): taken iff C == 0. -/
def execRnc (s : State) : Host.Outcome State Fault Refusal :=
  complete .rnc (s.cond .nc) ((s.advance 1).returnIf .nc)

/-- RC (R235): taken iff C == 1. -/
def execRc (s : State) : Host.Outcome State Fault Refusal :=
  complete .rc (s.cond .c) ((s.advance 1).returnIf .c)

/-- RPO (R236): taken iff P == 0. -/
def execRpo (s : State) : Host.Outcome State Fault Refusal :=
  complete .rpo (s.cond .po) ((s.advance 1).returnIf .po)

/-- RPE (R237): taken iff P == 1. -/
def execRpe (s : State) : Host.Outcome State Fault Refusal :=
  complete .rpe (s.cond .pe) ((s.advance 1).returnIf .pe)

/-- RP (R238): taken iff S == 0. -/
def execRp (s : State) : Host.Outcome State Fault Refusal :=
  complete .rp (s.cond .p) ((s.advance 1).returnIf .p)

/-- RM (R239): taken iff S == 1. -/
def execRm (s : State) : Host.Outcome State Fault Refusal :=
  complete .rm (s.cond .m) ((s.advance 1).returnIf .m)

/-! ### Restart -/

/-- The target of RST n: `8 * n` (R250). -/
def rstTarget (n : BitVec 3) : Word := BitVec.ofNat 16 (8 * n.toNat)

/-- RST n (R250). -/
def execRst (n : BitVec 3) (s : State) : Host.Outcome State Fault Refusal :=
  complete (.rst n) true ((s.advance 1).callTo (rstTarget n))

end Sys2Proof.Machine
end

