-- ==== Sys2Proof/Machine/DataTransfer.lean ====
section
/-! DEFINITION. The data transfer instructions, 40_data_transfer.md R110 to R122. A meaning starts with PC at the opcode byte
and first moves it past the instruction (30_encoding.md R94; log entry 25). -/

namespace Sys2Proof.Machine

/-- MOV r,r (R110). -/
def execMovRR (dst src : Reg) (s : State) : Host.Outcome State Fault Refusal :=
  complete (.movRR dst src) false ((s.advance 1).setReg dst (s.reg src))

/-- MOV r,M (R111). -/
def execMovRM (dst : Reg) (s : State) : Host.Outcome State Fault Refusal :=
  complete (.movRM dst) false ((s.advance 1).setReg dst (s.reg .m))

/-- MOV M,r (R112). -/
def execMovMR (src : Reg) (s : State) : Host.Outcome State Fault Refusal :=
  complete (.movMR src) false ((s.advance 1).setReg .m (s.reg src))

/-- MVI r,d8 (R113). -/
def execMviR (dst : Reg) (d8 : Byte) (s : State) : Host.Outcome State Fault Refusal :=
  complete (.mviR dst d8) false ((s.advance 2).setReg dst d8)

/-- MVI M,d8 (R114). -/
def execMviM (d8 : Byte) (s : State) : Host.Outcome State Fault Refusal :=
  complete (.mviM d8) false ((s.advance 2).setReg .m d8)

/-- LXI p,d16 (R115). -/
def execLxi (p : RegPair) (d16 : Word) (s : State) : Host.Outcome State Fault Refusal :=
  complete (.lxi p d16) false ((s.advance 3).setPair p d16)

/-- LDA a16 (R116). UNVERIFIED semantics (B7), unsafe (log entry 24). -/
def execLda (addr : Word) (s : State) : Host.Outcome State Fault Refusal :=
  complete (.lda addr) false ((s.advance 3).setReg .a (s.memRead addr))

/-- STA a16 (R117). UNVERIFIED semantics (B7), unsafe (log entry 24). -/
def execSta (addr : Word) (s : State) : Host.Outcome State Fault Refusal :=
  complete (.sta addr) false ((s.advance 3).memWrite addr s.a)

/-- LHLD a16 (R118). UNVERIFIED semantics (B7), unsafe (log entry 24). -/
def execLhld (addr : Word) (s : State) : Host.Outcome State Fault Refusal :=
  complete (.lhld addr) false ((s.advance 3).setPair .hl (s.memRead16 addr))

/-- SHLD a16 (R119). UNVERIFIED semantics (B7), unsafe (log entry 24). -/
def execShld (addr : Word) (s : State) : Host.Outcome State Fault Refusal :=
  complete (.shld addr) false ((s.advance 3).memWrite16 addr s.hl)

/-- LDAX p (R120). UNVERIFIED semantics (B7), unsafe (log entry 24). -/
def execLdax (p : RegPair) (s : State) : Host.Outcome State Fault Refusal :=
  complete (.ldax p) false ((s.advance 1).setReg .a (s.memRead (s.pair p)))

/-- STAX p (R121). UNVERIFIED semantics (B7), unsafe (log entry 24). -/
def execStax (p : RegPair) (s : State) : Host.Outcome State Fault Refusal :=
  complete (.stax p) false ((s.advance 1).memWrite (s.pair p) s.a)

/-- XCHG (R122). UNVERIFIED semantics (B7), unsafe (log entry 24). -/
def execXchg (s : State) : Host.Outcome State Fault Refusal :=
  complete .xchg false (((s.advance 1).setPair .hl (s.pair .de)).setPair .de (s.pair .hl))

end Sys2Proof.Machine
end

