-- ==== Sys2Proof/Machine/Logical.lean ====
section
/-! DEFINITION. The logical, compare, rotate and flag instructions, 42_logical.md R180 to R194. -/

namespace Sys2Proof.Machine

/-- ANA s (R180). -/
def execAna (src : Reg) (s : State) : Host.Outcome State Fault Refusal :=
  complete (.ana src) false ((s.advance 1).setLogic (s.a &&& s.reg src))

/-- XRA s (R181). -/
def execXra (src : Reg) (s : State) : Host.Outcome State Fault Refusal :=
  complete (.xra src) false ((s.advance 1).setLogic (s.a ^^^ s.reg src))

/-- ORA s (R182). -/
def execOra (src : Reg) (s : State) : Host.Outcome State Fault Refusal :=
  complete (.ora src) false ((s.advance 1).setLogic (s.a ||| s.reg src))

/-- CMP s (R183). -/
def execCmp (src : Reg) (s : State) : Host.Outcome State Fault Refusal :=
  complete (.cmp src) false ((s.advance 1).compareA (s.reg src))

/-- ANI d8 (R184). -/
def execAni (d8 : Byte) (s : State) : Host.Outcome State Fault Refusal :=
  complete (.ani d8) false ((s.advance 2).setLogic (s.a &&& d8))

/-- XRI d8 (R185). -/
def execXri (d8 : Byte) (s : State) : Host.Outcome State Fault Refusal :=
  complete (.xri d8) false ((s.advance 2).setLogic (s.a ^^^ d8))

/-- ORI d8 (R186). -/
def execOri (d8 : Byte) (s : State) : Host.Outcome State Fault Refusal :=
  complete (.ori d8) false ((s.advance 2).setLogic (s.a ||| d8))

/-- CPI d8 (R187). -/
def execCpi (d8 : Byte) (s : State) : Host.Outcome State Fault Refusal :=
  complete (.cpi d8) false ((s.advance 2).compareA d8)

/-- `A <- r`; `FLAGS.C <- cy`: the two effects of a rotate (R188 to R191). -/
def State.setRotated (s : State) (r : Byte) (cy : Bool) : State := { s with a := r }.setCarry cy

/-- The byte with only bit 0 or only bit 7 set, or zero. -/
def bitAt (b : Bool) (k : Nat) : Byte := if b then 0x01#8 <<< k else 0x00#8

/-- RLC (R188). UNVERIFIED semantics (B9), unsafe (log entry 24). -/
def execRlc (s : State) : Host.Outcome State Fault Refusal :=
  let bit := s.a.getLsbD 7
  complete .rlc false ((s.advance 1).setRotated ((s.a <<< 1) ||| bitAt bit 0) bit)

/-- RRC (R189). UNVERIFIED semantics (B9), unsafe (log entry 24). -/
def execRrc (s : State) : Host.Outcome State Fault Refusal :=
  let bit := s.a.getLsbD 0
  complete .rrc false ((s.advance 1).setRotated ((s.a >>> 1) ||| bitAt bit 7) bit)

/-- RAL (R190). UNVERIFIED semantics (B9), unsafe (log entry 24). -/
def execRal (s : State) : Host.Outcome State Fault Refusal :=
  complete .ral false ((s.advance 1).setRotated ((s.a <<< 1) ||| bitAt (flagC s.flags) 0) (s.a.getLsbD 7))

/-- RAR (R191). UNVERIFIED semantics (B9), unsafe (log entry 24). -/
def execRar (s : State) : Host.Outcome State Fault Refusal :=
  complete .rar false ((s.advance 1).setRotated ((s.a >>> 1) ||| bitAt (flagC s.flags) 7) (s.a.getLsbD 0))

/-- CMA (R192). UNVERIFIED semantics (B9), unsafe (log entry 24). -/
def execCma (s : State) : Host.Outcome State Fault Refusal :=
  complete .cma false ((s.advance 1).setReg .a (~~~ s.a))

/-- STC (R193). UNVERIFIED semantics (B9), unsafe (log entry 24). -/
def execStc (s : State) : Host.Outcome State Fault Refusal :=
  complete .stc false ((s.advance 1).setCarry true)

/-- CMC (R194). UNVERIFIED semantics (B9), unsafe (log entry 24). -/
def execCmc (s : State) : Host.Outcome State Fault Refusal :=
  complete .cmc false ((s.advance 1).setCarry (!flagC s.flags))

end Sys2Proof.Machine
end

