-- ==== Sys2Proof/Machine/Io.lean ====
section
/-! DEFINITION. The I/O space and the port table, 20_memory.md R60 to R64. -/

namespace Sys2Proof.Machine

/-- IOTAB is in its canonical form and every listed port is one of the 256 (10_state.md R35). -/
def PortTable.wf (t : PortTable) : Bool := Sparse.canonical none t && Sparse.below 256 t

/-- The state a device starts in, as a label: DESIGN CHOICE, safe (log entry 1). -/
def DeviceTable.initial : Config.DevState := []

/-- DEVSTATE is in its canonical form. -/
def DeviceTable.wf (t : DeviceTable) : Bool := Sparse.canonical DeviceTable.initial t

/-- `IOTAB[port]` (10_state.md R35). -/
def State.boundTo (s : State) (port : Byte) : Option Config.DeviceId := Sparse.get none s.ioTab port.toNat

/-- `DEVSTATE[d]` (10_state.md R38). -/
def State.device (s : State) (d : Config.DeviceId) : Config.DevState := Sparse.get DeviceTable.initial s.devState d

/-- `DEVSTATE[d] <- v`. -/
def State.setDevice (s : State) (d : Config.DeviceId) (v : Config.DevState) : State :=
  { s with devState := Sparse.set DeviceTable.initial s.devState d v }

/-- What an unbound port reads as (R62). -/
def floatingBus : Byte := 0xFF#8

/-- The byte `IoRead(port)` answers (R62). -/
def State.ioReadValue (s : State) (port : Byte) : Byte :=
  if isTimerPort port then s.timerRead port
  else
    match s.boundTo port with
    | none => floatingBus
    | some d => (Config.deviceRead d (s.device d) port).1

/-- The state `IoRead(port)` leaves (R62): only a bound device may change. -/
def State.ioReadState (s : State) (port : Byte) : State :=
  if isTimerPort port then s
  else
    match s.boundTo port with
    | none => s
    | some d => s.setDevice d (Config.deviceRead d (s.device d) port).2

/-- `IoWrite(port, v)` (R63). -/
def State.ioWrite (s : State) (port v : Byte) : State :=
  if isTimerPort port then s.timerWrite port v
  else
    match s.boundTo port with
    | none => s
    | some d => s.setDevice d (Config.deviceWrite d (s.device d) port v)

end Sys2Proof.Machine
end

