-- ==== Sys2Proof/Machine/StackIoControl.lean ====
section
/-! DEFINITION. The stack, I/O and machine-control instructions, 44_stack_io_control.md R260 to R277, and the illegal opcode
bytes, 60_exceptions.md R310. -/

namespace Sys2Proof.Machine

/-! ### Stack -/

/-- PUSH B, PUSH D, PUSH H (R260). -/
def execPush (p : PushPair) (s : State) : Host.Outcome State Fault Refusal :=
  complete (.push p) false ((s.advance 1).push16 (s.pushPair p))

/-- PUSH PSW (R261). -/
def execPushPsw (s : State) : Host.Outcome State Fault Refusal :=
  complete .pushPsw false ((s.advance 1).push16 s.psw)

/-- POP B, POP D, POP H (R262). -/
def execPop (p : PushPair) (s : State) : Host.Outcome State Fault Refusal :=
  complete (.pop p) false ((s.advance 1).popped.setPushPair p s.popValue)

/-- POP PSW (R263). -/
def execPopPsw (s : State) : Host.Outcome State Fault Refusal :=
  complete .popPsw false ((s.advance 1).popped.setPsw s.popValue)

/-- XTHL (R264): both reads before both writes. UNVERIFIED semantics and order (B8, D12), unsafe (log entries 24 and 13). -/
def execXthl (s : State) : Host.Outcome State Fault Refusal :=
  complete .xthl false
    ((((s.advance 1).memWrite s.sp s.l).memWrite (s.sp + 1) s.h).setPair .hl s.popValue)

/-- SPHL (R265). UNVERIFIED semantics (B8), unsafe (log entry 24). -/
def execSphl (s : State) : Host.Outcome State Fault Refusal :=
  complete .sphl false ((s.advance 1).setPair .sp s.hl)

/-! ### Input and output -/

/-- IN port (R270). -/
def execInPort (port : Byte) (s : State) : Host.Outcome State Fault Refusal :=
  complete (.inPort port) false (((s.advance 2).ioReadState port).setReg .a (s.ioReadValue port))

/-- OUT port (R271). -/
def execOutPort (port : Byte) (s : State) : Host.Outcome State Fault Refusal :=
  complete (.outPort port) false ((s.advance 2).ioWrite port s.a)

/-! ### Interrupt enable, halt, no-operation -/

/-- EI (R272), with no delay. UNVERIFIED (B10, D13), unsafe (log entry 14). -/
def execEi (s : State) : Host.Outcome State Fault Refusal :=
  complete .ei false { s.advance 1 with inte := true }

/-- DI (R273). UNVERIFIED semantics (B10), unsafe (log entry 24). -/
def execDi (s : State) : Host.Outcome State Fault Refusal :=
  complete .di false { s.advance 1 with inte := false }

/-- HLT (R275). -/
def execHlt (s : State) : Host.Outcome State Fault Refusal :=
  complete .hlt false { s.advance 1 with halted := true }

/-- NOP (R276). -/
def execNop (s : State) : Host.Outcome State Fault Refusal :=
  complete .nop false (s.advance 1)

/-- The undocumented duplicate of NOP at 0x08 (R277). -/
def execNop08 (s : State) : Host.Outcome State Fault Refusal :=
  complete .nop08 false (s.advance 1)

/-- The undocumented duplicate of NOP at 0x10 (R277). -/
def execNop10 (s : State) : Host.Outcome State Fault Refusal :=
  complete .nop10 false (s.advance 1)

/-- The undocumented duplicate of NOP at 0x18 (R277). -/
def execNop18 (s : State) : Host.Outcome State Fault Refusal :=
  complete .nop18 false (s.advance 1)

/-- The undocumented duplicate of NOP at 0x20 (R277). -/
def execNop20 (s : State) : Host.Outcome State Fault Refusal :=
  complete .nop20 false (s.advance 1)

/-- The undocumented duplicate of NOP at 0x28 (R277). -/
def execNop28 (s : State) : Host.Outcome State Fault Refusal :=
  complete .nop28 false (s.advance 1)

/-- The undocumented duplicate of NOP at 0x30 (R277). -/
def execNop30 (s : State) : Host.Outcome State Fault Refusal :=
  complete .nop30 false (s.advance 1)

/-- The undocumented duplicate of NOP at 0x38 (R277). -/
def execNop38 (s : State) : Host.Outcome State Fault Refusal :=
  complete .nop38 false (s.advance 1)

/-! ### The illegal opcode bytes -/

/-- The illegal byte 0xCB: `raise IllegalOpcode(0xCB, at)` (R310). -/
def execIllegalCB (s : State) : Host.Outcome State Fault Refusal := raiseIllegalOpcode 0xCB#8 s

/-- The illegal byte 0xD9: `raise IllegalOpcode(0xD9, at)` (R310). -/
def execIllegalD9 (s : State) : Host.Outcome State Fault Refusal := raiseIllegalOpcode 0xD9#8 s

/-- The illegal byte 0xDD: `raise IllegalOpcode(0xDD, at)` (R310). -/
def execIllegalDD (s : State) : Host.Outcome State Fault Refusal := raiseIllegalOpcode 0xDD#8 s

/-- The illegal byte 0xED: `raise IllegalOpcode(0xED, at)` (R310). -/
def execIllegalED (s : State) : Host.Outcome State Fault Refusal := raiseIllegalOpcode 0xED#8 s

/-- The illegal byte 0xFD: `raise IllegalOpcode(0xFD, at)` (R310). -/
def execIllegalFD (s : State) : Host.Outcome State Fault Refusal := raiseIllegalOpcode 0xFD#8 s

end Sys2Proof.Machine
end

