-- ==== Sys2Proof/Machine/HostOps.lean ====
section
/-! DEFINITION. What a step does besides executing an instruction (60_exceptions.md R300, R340), and what the host does between
steps: `load_program`, the accessors and `bind` (70_reset_and_hazards.md R353 to R355). -/

namespace Sys2Proof.Machine

/-! ### The parts of a step -/

/-- The halted machine has no step (R340). UNVERIFIED (D19), safe (log entry 18). -/
def haltedStop : Host.Outcome State Fault Refusal := .fault .halted

/-- The interrupt-delivery step (R300, R301): delivery, then its cycles accounted. UNVERIFIED (D5), unsafe (log entry 6). -/
def State.deliveryStep (s : State) : State := s.deliverInterrupt.account intCycles

/-- The instruction at PC: its bytes are those at PC, PC + 1 and PC + 2, wrapping (30_encoding.md R82, R83), of which it uses as
many as it has. Reads have no side effect (20_memory.md R52), so reading all three is unobservable (log entry 25). -/
def State.fetchInstr (s : State) : Instr :=
  decodeOp (s.memRead s.pc) (s.memRead (s.pc + 1)) (s.memRead (s.pc + 2))

/-! ### The host's operations -/

/-- Bytes written to memory from an address on, wrapping (R353). -/
def State.placeBytes (s : State) (start : Word) : List Byte → State
  | [] => s
  | v :: rest => (s.memWrite start v).placeBytes (start + 1) rest

/-- `load_program(bytes, start)` (R353). UNVERIFIED wrap (D21), unsafe (log entry 19). -/
def State.loadProgram (s : State) (bytes : List Byte) (start : Word) : State :=
  (s.placeBytes start bytes).jumpTo start

/-- The host's write of the flags byte, through `norm` (R354). UNVERIFIED (D20), unsafe (log entry 19). -/
def State.hostSetFlags (s : State) (v : Byte) : State := { s with flags := norm v }

/-- The names of the five flags. -/
inductive Flag where
  | s | z | ac | p | c
  deriving DecidableEq, Repr

/-- The bit position of a flag (10_state.md R26). -/
def Flag.bit : Flag → Nat
  | .s => 7
  | .z => 6
  | .ac => 4
  | .p => 2
  | .c => 0

/-- The host's read of one flag (R354). -/
def State.hostGetFlag (s : State) (f : Flag) : Bool := s.flags.getLsbD f.bit

/-- The host's write of one flag: only that bit changes (R354). -/
def State.hostSetFlag (s : State) (f : Flag) (v : Bool) : State :=
  let one := 0x01#8 <<< f.bit
  { s with flags := if v then s.flags ||| one else s.flags &&& ~~~ one }

/-- The host's write of a register; M writes memory at HL (R354). -/
def State.hostSetReg (s : State) (r : Reg) (v : Byte) : State := s.setReg r v

/-- The host's write of a register pair (R354). -/
def State.hostSetPair (s : State) (p : RegPair) (v : Word) : State := s.setPair p v

/-- The host's write in the push and pop encoding; PSW goes through `norm` (R354). -/
def State.hostSetPushPair (s : State) (p : PushPair) (v : Word) : State := s.setPushPair p v

/-- The host's write of PC (10_state.md R30). -/
def State.hostSetPc (s : State) (v : Word) : State := s.jumpTo v

/-- `bind(port, device)` (R355), accepted at every port. UNVERIFIED at the timer ports (D22), unsafe (log entry 19). -/
def State.bind (s : State) (port : Byte) (d : Config.DeviceId) : State :=
  { s with ioTab := Sparse.set none s.ioTab port.toNat (some d) }

/-- The machine running with no interrupt due, everything else kept: what a fetch at PC needs (log entry 26). -/
def State.readyToFetch (s : State) : State :=
  { s with halted := false, tPending := if s.interruptDue then false else s.tPending }

end Sys2Proof.Machine
end

