-- ==== Sys2Proof/Machine/Step.lean ====
section
/-! DEFINITION. The step of the machine, `execute_one` of 60_exceptions.md R300, and the placing of one instruction for it. -/

namespace Sys2Proof.Machine

/-- `execute_one` (R300): no step when halted (R340), else the interrupt when it is due (R302), else the instruction at PC. -/
def step (s : State) : Host.Outcome State Fault Refusal :=
  if s.halted then haltedStop
  else if s.interruptDue then .next s.deliveryStep
  else exec s.fetchInstr s

/-- The state with a table word placed at PC, so that the next step runs it: the machine is running, no interrupt is due, and
the bytes of the word stand at PC. DESIGN CHOICE, safe (log entry 26). -/
def State.withFetchWord (s : State) (nbits w : Nat) : State :=
  s.readyToFetch.placeBytes s.pc (tableBytes nbits w)

end Sys2Proof.Machine
end

