-- ==== Sys2Proof/Safety.lean ====
section
/-! DEFINITION. The invariant of the machine, its runs, and the words in which claims say what a step changes and what it
leaves unchanged. -/

namespace Sys2Proof

open Sys2Proof.Machine

/-! ### The invariant -/

/-- Bit 1 of FLAGS is 1 and bits 3 and 5 are 0 (10_state.md R27). -/
def FlagsFixed (f : Byte) : Prop := f &&& 0x2A#8 = 0x02#8

/-- The invariant: the fixed bits of FLAGS (R27), and the canonical form of MEM, IOTAB and DEVSTATE (log entry 2). -/
def Inv (s : State) : Prop :=
  FlagsFixed s.flags ∧ Memory.wf s.mem = true ∧ PortTable.wf s.ioTab = true ∧ DeviceTable.wf s.devState = true

/-- A step executes the instruction at PC: the machine is running and no interrupt is due (60_exceptions.md R300). -/
def Fetching (s : State) : Prop := s.halted = false ∧ s.interruptDue = false

/-! ### What sets and clears T_PENDING (60_exceptions.md R304) -/

/-- The step from `s` executes OUT to the port: the byte at PC is 0xD3 and the next one is the port (44_stack_io_control.md
R271; the byte value is B6, log entry 23). -/
def WritesPort (port : Byte) (s : State) : Prop :=
  Fetching s ∧ s.memRead s.pc = 0xD3#8 ∧ s.memRead (s.pc + 1) = port

/-- The step from `s` acknowledges: it writes the control port with bit 1 set (60_exceptions.md R324). -/
def Acknowledges (s : State) : Prop := WritesPort 0x32#8 s ∧ s.a.getLsbD 1 = true

/-- The tick of the step of `n` cycles from `s` to `t` expires (60_exceptions.md R325): the timer is enabled with a nonzero
reload value, and `n` reaches the counter, which is the new reload value where the step arms it (R323). -/
def Expires (n : Nat) (s t : State) : Prop :=
  t.tEnabled = true ∧ t.tReload ≠ 0x0000#16 ∧
    (WritesPort 0x31#8 s → t.tReload.toNat ≤ n) ∧ (¬ WritesPort 0x31#8 s → s.tCounter.toNat ≤ n)

/-! ### Runs (60_exceptions.md R341) -/

/-- How a run of at most some number of steps ends. -/
inductive RunEnd where
  | halted (s : State)
  | faulted (s : State) (f : Fault)
  | refused (s : State) (r : Refusal)
  | outOfSteps (s : State)
  deriving DecidableEq, Repr

/-- `run()` with a cap on its steps (R341): `while not HALTED: execute_one()`. -/
def run : Nat → State → RunEnd
  | 0, s => if s.halted then .halted s else .outOfSteps s
  | n + 1, s =>
    if s.halted then .halted s
    else
      match step s with
      | .next t => run n t
      | .fault f => .faulted s f
      | .refused r => .refused s r

/-! ### What a step leaves unchanged, from a state `s` to a state `t` -/

/-- Every general register but those listed is unchanged. -/
def SameRegsBut (but : List Reg) (s t : State) : Prop := ∀ r : Reg, r ≠ .m → r ∉ but → t.reg r = s.reg r

/-- Every byte of memory but those at the listed addresses reads as before. -/
def SameMemoryBut (but : List Word) (s t : State) : Prop := ∀ x : Word, x ∉ but → t.memRead x = s.memRead x

/-- INTE, HALTED, IOTAB and DEVSTATE are unchanged. -/
def SameControl (s t : State) : Prop :=
  t.inte = s.inte ∧ t.halted = s.halted ∧ t.ioTab = s.ioTab ∧ t.devState = s.devState

/-- The timer moves from `s` to `t` by a tick of `n` cycles (60_exceptions.md R325). -/
def Ticked (n : Nat) (s t : State) : Prop :=
  t.tReload = s.tReload ∧ t.tEnabled = s.tEnabled ∧
    (s.tEnabled = false ∨ s.tReload = 0x0000#16 → t.tCounter = s.tCounter ∧ t.tPending = s.tPending) ∧
    (s.tEnabled = true → s.tReload ≠ 0x0000#16 → s.tCounter.toNat ≤ n →
      t.tCounter = s.tReload ∧ t.tPending = true) ∧
    (s.tEnabled = true → s.tReload ≠ 0x0000#16 → n < s.tCounter.toNat →
      t.tCounter.toNat = s.tCounter.toNat - n ∧ t.tPending = s.tPending)

/-- `n` cycles pass from `s` to `t`: they are added to CYCLES_TOTAL and ticked (60_exceptions.md R301). -/
def Elapsed (n : Nat) (s t : State) : Prop := t.cyclesTotal = s.cyclesTotal + n ∧ Ticked n s t

/-- The frame of an instruction of `n` cycles: registers but `regs`, memory but `bytes` and the control state are unchanged,
and `n` cycles pass. FLAGS, SP and PC are each stated beside it. -/
def Frame (regs : List Reg) (bytes : List Word) (n : Nat) (s t : State) : Prop :=
  SameRegsBut regs s t ∧ SameMemoryBut bytes s t ∧ SameControl s t ∧ Elapsed n s t

/-! ### Flags, as numbers (10_state.md R26) -/

/-- The number of 1 bits of a byte is even (00_scope.md R9, R10). -/
def EvenOnes (v : Byte) : Bool := ((List.range 8).filter fun k => v.toNat / 2 ^ k % 2 = 1).length % 2 = 0

/-- The flags byte has these five flags and the three fixed bits (R26). -/
def FlagsAre (f : Byte) (sgn zero aux parity carry : Bool) : Prop :=
  f.toNat = 128 * sgn.toNat + 64 * zero.toNat + 16 * aux.toNat + 4 * parity.toNat + 2 + carry.toNat

/-- S, Z and P are those of the result `r` (R26), AC and C as given. -/
def FlagsOf (f r : Byte) (aux carry : Bool) : Prop :=
  FlagsAre f (decide (128 ≤ r.toNat)) (decide (r.toNat = 0)) aux (EvenOnes r) carry

/-- The flags byte `g` has the carry given and every other bit of `f`. -/
def OnlyCarry (f g : Byte) (carry : Bool) : Prop := g.getLsbD 0 = carry ∧ ∀ k : Nat, k ≠ 0 → g.getLsbD k = f.getLsbD k

/-! ### What an instruction does, from a state `s` to a state `t` -/

/-- FLAGS and SP are unchanged and PC is past the `len` bytes of the instruction (10_state.md R30). -/
def FlowsOn (len : Nat) (s t : State) : Prop :=
  t.flags = s.flags ∧ t.sp = s.sp ∧ t.pc = s.pc + BitVec.ofNat 16 len

/-- The registers of a pair, the high byte first; SP is not made of registers (10_state.md R24). -/
def pairRegs : RegPair → List Reg
  | .bc => [.b, .c]
  | .de => [.d, .e]
  | .hl => [.h, .l]
  | .sp => []

/-- The pair `p` holds `v` in `t`, and SP is `v` for the pair SP and unchanged for the others (10_state.md R24). -/
def HoldsPair (p : RegPair) (v : Word) (s t : State) : Prop :=
  match p with
  | .bc => t.b = hiByte v ∧ t.c = loByte v ∧ t.sp = s.sp
  | .de => t.d = hiByte v ∧ t.e = loByte v ∧ t.sp = s.sp
  | .hl => t.h = hiByte v ∧ t.l = loByte v ∧ t.sp = s.sp
  | .sp => t.sp = v

/-- The value of a pair as a number: 256 times its first-named register plus the second (10_state.md R24). -/
def pairNat (s : State) : RegPair → Nat
  | .bc => 256 * s.b.toNat + s.c.toNat
  | .de => 256 * s.d.toNat + s.e.toNat
  | .hl => 256 * s.h.toNat + s.l.toNat
  | .sp => s.sp.toNat

/-- The Carry flag, bit 0 of FLAGS (R26). -/
def carryOf (s : State) : Bool := s.flags.getLsbD 0

/-- A holds A + v + cin modulo 256, and all five flags are those of that addition (41_arithmetic.md R140, R142). -/
def AddsToA (v : Byte) (cin : Bool) (s t : State) : Prop :=
  t.a.toNat = (s.a.toNat + v.toNat + cin.toNat) % 256 ∧
    FlagsOf t.flags t.a (decide (16 ≤ s.a.toNat % 16 + v.toNat % 16 + cin.toNat))
      (decide (256 ≤ s.a.toNat + v.toNat + cin.toNat))

/-- `r` is A - v - bin modulo 256, and the five flags `f` are those of that subtraction: C is the borrow, AC is set when there
is no borrow from the high nibble (41_arithmetic.md R140, R143, AC_SUB = carry_out). -/
def SubtractsFromA (v : Byte) (bin : Bool) (s : State) (r f : Byte) : Prop :=
  r.toNat = (s.a.toNat + (256 - (v.toNat + bin.toNat))) % 256 ∧
    FlagsOf f r (decide (v.toNat % 16 + bin.toNat ≤ s.a.toNat % 16)) (decide (s.a.toNat < v.toNat + bin.toNat))

/-- The outcome is a jump if `taken`, else the flow past the three bytes, in 10 cycles either way (43_branch.md R211). -/
def JumpsIf (taken : Bool) (addr : Word) (s : State) (o : Host.Outcome State Fault Refusal) : Prop :=
  ∃ t, o = .next t ∧ t.pc = (if taken then addr else s.pc + 3) ∧ t.flags = s.flags ∧ t.sp = s.sp ∧ Frame [] [] 10 s t

/-- The outcome is a call of `target` that pushed `back`, in `n` cycles (43_branch.md R209, R220). -/
def Calls (target back : Word) (n : Nat) (s : State) (o : Host.Outcome State Fault Refusal) : Prop :=
  ∃ t, o = .next t ∧ t.pc = target ∧ t.sp = s.sp - 2 ∧ t.memRead (s.sp - 1) = hiByte back ∧
    t.memRead (s.sp - 2) = loByte back ∧ t.flags = s.flags ∧ Frame [] [s.sp - 1, s.sp - 2] n s t

/-- The outcome is the flow past the `len` bytes with no other effect, in `n` cycles. -/
def OnlyFlowsOn (len n : Nat) (s : State) (o : Host.Outcome State Fault Refusal) : Prop :=
  ∃ t, o = .next t ∧ FlowsOn len s t ∧ Frame [] [] n s t

/-- The outcome is a return to the address on top of the stack, in `n` cycles (43_branch.md R230). -/
def Returns (n : Nat) (s : State) (o : Host.Outcome State Fault Refusal) : Prop :=
  ∃ t, o = .next t ∧ t.pc.toNat = 256 * (s.memRead (s.sp + 1)).toNat + (s.memRead s.sp).toNat ∧ t.sp = s.sp + 2 ∧
    t.flags = s.flags ∧ Frame [] [] n s t

/-- The next state of an outcome changed by `f`; a fault or a refusal stays. -/
def mapNext (f : State → State) (o : Host.Outcome State Fault Refusal) : Host.Outcome State Fault Refusal :=
  match o with
  | .next t => .next (f t)
  | .fault r => .fault r
  | .refused r => .refused r

end Sys2Proof
end

