-- ==== Sys2Proof/Certificates/Slice0/Obligations.lean ====
section
/-! DEFINITION. The statements about the machine that are put to proof. Each docstring names the rule of the spec it
formalises, and the log entry of what is not the source's own words. -/

open Sys2Proof Sys2Proof.Machine

/-- Decode and encode agree on every well-formed instruction (30_encoding.md R80 to R88, R94). The byte values of class 5 of R85 are the
spec's general knowledge (B6, log entry 23). -/
def Obligations.DecodeInvertsEncode : Prop :=
  ∀ (i : Instr) (rest : List Byte), i.wf = true → decode (encode i ++ rest) = .ok (i, rest)

/-- The other direction: each byte sequence has one meaning (30_encoding.md R85, R86, R91). -/
def Obligations.EncodeInvertsDecode : Prop :=
  ∀ (bytes : List Byte) (i : Instr) (rest : List Byte),
    decode bytes = .ok (i, rest) → i.wf = true ∧ encode i ++ rest = bytes

/-- An instruction is 1, 2 or 3 bytes and the first byte alone decides the length (30_encoding.md R80). -/
def Obligations.DecodeRejectsOnlyMissingBytes : Prop :=
  (∀ op : Byte, lengthOf op = 1 ∨ lengthOf op = 2 ∨ lengthOf op = 3) ∧ decode [] = .error .noBytes ∧
    ∀ (op : Byte) (rest : List Byte),
      ((op :: rest).length < lengthOf op → decode (op :: rest) = .error (.truncated op)) ∧
      (lengthOf op ≤ (op :: rest).length →
        ∃ i, decode (op :: rest) = .ok (i, (op :: rest).drop (lengthOf op)))

/-- The five bytes that no class covers (30_encoding.md R90), a consequence of the byte values of B6 (log entry 23). -/
def Obligations.IllegalBytesAreFive : Prop :=
  ∀ op b2 b3 : Byte,
    (decodeOp op b2 b3 = .illegalCB ↔ op = 0xCB#8) ∧ (decodeOp op b2 b3 = .illegalD9 ↔ op = 0xD9#8) ∧
    (decodeOp op b2 b3 = .illegalDD ↔ op = 0xDD#8) ∧ (decodeOp op b2 b3 = .illegalED ↔ op = 0xED#8) ∧
    (decodeOp op b2 b3 = .illegalFD ↔ op = 0xFD#8)

/-- Encodings written out in the rules' examples, in 95_test_vectors.md and in the opcode map R86. -/
def Obligations.SpecWordsDecode : Prop :=
  decode [0x7E#8] = .ok (.movRM .a, []) ∧
    decode [0x73#8] = .ok (.movMR .e, []) ∧
    decode [0x16#8, 0x5A#8] = .ok (.mviR .d 0x5A#8, []) ∧
    decode [0x01#8, 0x02#8, 0x01#8] = .ok (.lxi .bc 0x0102#16, []) ∧
    decode [0x2A#8, 0x00#8, 0x30#8] = .ok (.lhld 0x3000#16, []) ∧
    decode [0x9D#8] = .ok (.sbb .l, []) ∧
    decode [0xFE#8, 0x40#8] = .ok (.cpi 0x40#8, []) ∧
    decode [0x34#8] = .ok (.inr .m, []) ∧
    decode [0x39#8] = .ok (.dad .sp, []) ∧
    decode [0x1F#8] = .ok (.rar, []) ∧
    decode [0xC2#8, 0x50#8, 0x01#8] = .ok (.jnz 0x0150#16, []) ∧
    decode [0xEC#8, 0x00#8, 0x04#8] = .ok (.cpe 0x0400#16, []) ∧
    decode [0xF8#8] = .ok (.rm, []) ∧
    decode [0xD7#8] = .ok (.rst 2#3, []) ∧
    decode [0xE1#8] = .ok (.pop .hl, []) ∧
    decode [0xF5#8] = .ok (.pushPsw, []) ∧
    decode [0xD3#8, 0x32#8] = .ok (.outPort 0x32#8, []) ∧
    decode [0x76#8] = .ok (.hlt, []) ∧
    decode [0x28#8] = .ok (.nop28, [])

/-- The step, on its normal path (60_exceptions.md R300). That `exec` holds everything a step does there, PC past the bytes, the cycles
and the tick included, and that three bytes are read at once, is the model's own choice (log entry 25, DEDUCED). -/
def Obligations.StepRunsDecodedInstruction : Prop :=
  ∀ (s : State) (i : Instr) (rest : List Byte), Fetching s →
    decode [s.memRead s.pc, s.memRead (s.pc + 1), s.memRead (s.pc + 2)] = .ok (i, rest) → step s = exec i s

/-- The wrap of PC during a fetch (10_state.md R30, 95_test_vectors.md V7). That three bytes are read at once is the model's own choice
(log entry 25, DEDUCED). -/
def Obligations.PcWrapsAcrossTheTop : Prop :=
  ∀ s : State, Fetching s → s.pc = 0xFFFF#16 →
    step s = exec (decodeOp (s.memRead 0xFFFF#16) (s.memRead 0x0000#16) (s.memRead 0x0001#16)) s

/-- Interrupt delivery (60_exceptions.md R302, R305). The 11 cycles are decision D5 (log entry 6) and the place of the two bytes is
B5 (log entry 22). -/
def Obligations.StepDeliversInterrupt : Prop :=
  ∀ s : State, s.halted = false → s.inte = true → s.tPending = true →
    ∃ t, step s = .next t ∧ t.pc = 0x0038#16 ∧ t.sp = s.sp - 2 ∧ t.memRead (s.sp - 1) = hiByte s.pc ∧
      t.memRead (s.sp - 2) = loByte s.pc ∧ t.flags = s.flags ∧
      Frame [] [s.sp - 1, s.sp - 2] 11 { s with inte := false, tPending := false } t

/-- The halted state (60_exceptions.md R340), by decision D19 (log entry 18). -/
def Obligations.HaltedMachineHasNoStep : Prop :=
  ∀ s : State, s.halted = true → step s = .fault .halted

/-- The one synchronous exception (60_exceptions.md R310), for the five bytes of R90 (B6, log entry 23). -/
def Obligations.IllegalOpcodeStops : Prop :=
  ∀ s : State,
    exec .illegalCB s = .fault (.illegalOpcode 0xCB#8 s.pc) ∧ exec .illegalD9 s = .fault (.illegalOpcode 0xD9#8 s.pc) ∧
    exec .illegalDD s = .fault (.illegalOpcode 0xDD#8 s.pc) ∧ exec .illegalED s = .fault (.illegalOpcode 0xED#8 s.pc) ∧
    exec .illegalFD s = .fault (.illegalOpcode 0xFD#8 s.pc) ∧
    (Fetching s → s.memRead s.pc ∈ [0xCB#8, 0xD9#8, 0xDD#8, 0xED#8, 0xFD#8] →
      step s = .fault (.illegalOpcode (s.memRead s.pc) s.pc))

/-- The outcomes of a step (00_scope.md R16, 60_exceptions.md R309). The halted machine has no step by decision D19 (log entry 18), and
the set of five rests on B6 (log entry 23). -/
def Obligations.StepStopsOnlyHaltedOrIllegal : Prop :=
  ∀ s : State,
    (∃ t, step s = .next t) ∨ (s.halted = true ∧ step s = .fault .halted) ∨
    (Fetching s ∧ s.memRead s.pc ∈ [0xCB#8, 0xD9#8, 0xDD#8, 0xED#8, 0xFD#8] ∧
      step s = .fault (.illegalOpcode (s.memRead s.pc) s.pc))

/-- MOV r,r, MOV r,M, MVI r,d8 (40_data_transfer.md R110, R111, R113). The register codes are B3 (log entry 21). -/
def Obligations.MovAndMviIntoRegister : Prop :=
  ∀ (dst src : Reg) (d8 : Byte) (s : State), dst.isPhysical = true → src.isPhysical = true →
    (encode (.movRR dst src) = [BitVec.ofNat 8 (0x40 + 8 * dst.code.toNat + src.code.toNat)] ∧
      ∃ t, exec (.movRR dst src) s = .next t ∧ t.reg dst = s.reg src ∧ FlowsOn 1 s t ∧ Frame [dst] [] 5 s t) ∧
    (encode (.movRM dst) = [BitVec.ofNat 8 (0x46 + 8 * dst.code.toNat)] ∧
      ∃ t, exec (.movRM dst) s = .next t ∧ t.reg dst = s.memRead s.hl ∧ FlowsOn 1 s t ∧ Frame [dst] [] 7 s t) ∧
    (encode (.mviR dst d8) = [BitVec.ofNat 8 (0x06 + 8 * dst.code.toNat), d8] ∧
      ∃ t, exec (.mviR dst d8) s = .next t ∧ t.reg dst = d8 ∧ FlowsOn 2 s t ∧ Frame [dst] [] 7 s t)

/-- MOV M,r and MVI M,d8 (40_data_transfer.md R112, R114). The register codes are B3 (log entry 21). -/
def Obligations.MovAndMviIntoMemory : Prop :=
  ∀ (src : Reg) (d8 : Byte) (s : State), src.isPhysical = true →
    (encode (.movMR src) = [BitVec.ofNat 8 (0x70 + src.code.toNat)] ∧
      ∃ t, exec (.movMR src) s = .next t ∧ t.memRead s.hl = s.reg src ∧ FlowsOn 1 s t ∧ Frame [] [s.hl] 7 s t) ∧
    (encode (.mviM d8) = [0x36#8, d8] ∧
      ∃ t, exec (.mviM d8) s = .next t ∧ t.memRead s.hl = d8 ∧ FlowsOn 2 s t ∧ Frame [] [s.hl] 10 s t)

/-- LXI (40_data_transfer.md R115). The pair codes are B3 (log entry 21). -/
def Obligations.LxiLoadsPair : Prop :=
  ∀ (p : RegPair) (v : Word) (s : State),
    encode (.lxi p v) = [BitVec.ofNat 8 (0x01 + 16 * p.code.toNat), loByte v, hiByte v] ∧
      ∃ t, exec (.lxi p v) s = .next t ∧ HoldsPair p v s t ∧ t.flags = s.flags ∧ t.pc = s.pc + 3 ∧
        Frame (pairRegs p) [] 10 s t

/-- LDA and LDAX (40_data_transfer.md R116, R120), general knowledge of the spec (B7, D4; log entries 24 and 5). -/
def Obligations.LdaAndLdaxLoadA : Prop :=
  ∀ (addr : Word) (p : RegPair) (s : State), p.isIndirect = true →
    (∃ t, exec (.lda addr) s = .next t ∧ t.a = s.memRead addr ∧ FlowsOn 3 s t ∧ Frame [.a] [] 13 s t) ∧
    (∃ t, exec (.ldax p) s = .next t ∧ t.a = s.memRead (BitVec.ofNat 16 (pairNat s p)) ∧ FlowsOn 1 s t ∧ Frame [.a] [] 7 s t)

/-- STA and STAX (40_data_transfer.md R117, R121), general knowledge of the spec (B7, D4; log entries 24 and 5). -/
def Obligations.StaAndStaxStoreA : Prop :=
  ∀ (addr : Word) (p : RegPair) (s : State), p.isIndirect = true →
    (∃ t, exec (.sta addr) s = .next t ∧ t.memRead addr = s.a ∧ FlowsOn 3 s t ∧ Frame [] [addr] 13 s t) ∧
    (∃ t, exec (.stax p) s = .next t ∧ t.memRead (BitVec.ofNat 16 (pairNat s p)) = s.a ∧ FlowsOn 1 s t ∧
      Frame [] [BitVec.ofNat 16 (pairNat s p)] 7 s t)

/-- LHLD and SHLD (40_data_transfer.md R118, R119), general knowledge of the spec (B7, B5, D4; log entries 24, 22 and 5). -/
def Obligations.LhldAndShldMoveHl : Prop :=
  ∀ (addr : Word) (s : State),
    (∃ t, exec (.lhld addr) s = .next t ∧ t.l = s.memRead addr ∧ t.h = s.memRead (addr + 1) ∧ FlowsOn 3 s t ∧
      Frame [.h, .l] [] 16 s t) ∧
    (∃ t, exec (.shld addr) s = .next t ∧ t.memRead addr = s.l ∧ t.memRead (addr + 1) = s.h ∧ FlowsOn 3 s t ∧
      Frame [] [addr, addr + 1] 16 s t)

/-- XCHG (40_data_transfer.md R122), general knowledge of the spec (B7, D4; log entries 24 and 5). -/
def Obligations.XchgSwapsDeAndHl : Prop :=
  ∀ s : State, ∃ t, exec .xchg s = .next t ∧ t.d = s.h ∧ t.e = s.l ∧ t.h = s.d ∧ t.l = s.e ∧ FlowsOn 1 s t ∧
    Frame [.d, .e, .h, .l] [] 4 s t

/-- ADD, ADC, ADI, ACI (41_arithmetic.md R145, R146, R149, R150), with the spec's general knowledge of flag positions and carries
(B1, B11, B12, D4; log entries 20, 8 and 5). -/
def Obligations.AddFamily : Prop :=
  ∀ (src : Reg) (d8 : Byte) (s : State),
    (∃ t, exec (.add src) s = .next t ∧ AddsToA (s.reg src) false s t ∧ t.sp = s.sp ∧ t.pc = s.pc + 1 ∧
      Frame [.a] [] (if src = .m then 7 else 4) s t) ∧
    (∃ t, exec (.adc src) s = .next t ∧ AddsToA (s.reg src) (carryOf s) s t ∧ t.sp = s.sp ∧ t.pc = s.pc + 1 ∧
      Frame [.a] [] (if src = .m then 7 else 4) s t) ∧
    (∃ t, exec (.adi d8) s = .next t ∧ AddsToA d8 false s t ∧ t.sp = s.sp ∧ t.pc = s.pc + 2 ∧ Frame [.a] [] 7 s t) ∧
    (∃ t, exec (.aci d8) s = .next t ∧ AddsToA d8 (carryOf s) s t ∧ t.sp = s.sp ∧ t.pc = s.pc + 2 ∧ Frame [.a] [] 7 s t)

/-- SUB, SBB, SUI, SBI (41_arithmetic.md R147, R148, R151, R152). The sense of AC is decision D7 (log entry 8). -/
def Obligations.SubtractFamily : Prop :=
  ∀ (src : Reg) (d8 : Byte) (s : State),
    (∃ t, exec (.sub src) s = .next t ∧ SubtractsFromA (s.reg src) false s t.a t.flags ∧ t.sp = s.sp ∧ t.pc = s.pc + 1 ∧
      Frame [.a] [] (if src = .m then 7 else 4) s t) ∧
    (∃ t, exec (.sbb src) s = .next t ∧ SubtractsFromA (s.reg src) (carryOf s) s t.a t.flags ∧ t.sp = s.sp ∧
      t.pc = s.pc + 1 ∧ Frame [.a] [] (if src = .m then 7 else 4) s t) ∧
    (∃ t, exec (.sui d8) s = .next t ∧ SubtractsFromA d8 false s t.a t.flags ∧ t.sp = s.sp ∧ t.pc = s.pc + 2 ∧
      Frame [.a] [] 7 s t) ∧
    (∃ t, exec (.sbi d8) s = .next t ∧ SubtractsFromA d8 (carryOf s) s t.a t.flags ∧ t.sp = s.sp ∧ t.pc = s.pc + 2 ∧
      Frame [.a] [] 7 s t)

/-- CMP and CPI (42_logical.md R183, R187). That the flags are those of SUB is B12, the sense of AC is D7 (log entries 24 and 8). -/
def Obligations.CompareFamily : Prop :=
  ∀ (src : Reg) (d8 : Byte) (s : State),
    (∃ t r, exec (.cmp src) s = .next t ∧ SubtractsFromA (s.reg src) false s r t.flags ∧
      t.flags.getLsbD 6 = decide (s.a = s.reg src) ∧ t.sp = s.sp ∧ t.pc = s.pc + 1 ∧
      Frame [] [] (if src = .m then 7 else 4) s t) ∧
    (∃ t r, exec (.cpi d8) s = .next t ∧ SubtractsFromA d8 false s r t.flags ∧ t.flags.getLsbD 6 = decide (s.a = d8) ∧
      t.sp = s.sp ∧ t.pc = s.pc + 2 ∧ Frame [] [] 7 s t)

/-- ANA, XRA, ORA, ANI, XRI, ORI (42_logical.md R180 to R182, R184 to R186; 41_arithmetic.md R141). Flag positions are B1 (log entry 20). -/
def Obligations.LogicFamily : Prop :=
  ∀ (src : Reg) (d8 : Byte) (s : State),
    (∃ t, exec (.ana src) s = .next t ∧ t.a = s.a &&& s.reg src ∧ FlagsOf t.flags t.a false false ∧ t.sp = s.sp ∧
      t.pc = s.pc + 1 ∧ Frame [.a] [] (if src = .m then 7 else 4) s t) ∧
    (∃ t, exec (.xra src) s = .next t ∧ t.a = s.a ^^^ s.reg src ∧ FlagsOf t.flags t.a false false ∧ t.sp = s.sp ∧
      t.pc = s.pc + 1 ∧ Frame [.a] [] (if src = .m then 7 else 4) s t) ∧
    (∃ t, exec (.ora src) s = .next t ∧ t.a = s.a ||| s.reg src ∧ FlagsOf t.flags t.a false false ∧ t.sp = s.sp ∧
      t.pc = s.pc + 1 ∧ Frame [.a] [] (if src = .m then 7 else 4) s t) ∧
    (∃ t, exec (.ani d8) s = .next t ∧ t.a = s.a &&& d8 ∧ FlagsOf t.flags t.a false false ∧ t.sp = s.sp ∧
      t.pc = s.pc + 2 ∧ Frame [.a] [] 7 s t) ∧
    (∃ t, exec (.xri d8) s = .next t ∧ t.a = s.a ^^^ d8 ∧ FlagsOf t.flags t.a false false ∧ t.sp = s.sp ∧
      t.pc = s.pc + 2 ∧ Frame [.a] [] 7 s t) ∧
    (∃ t, exec (.ori d8) s = .next t ∧ t.a = s.a ||| d8 ∧ FlagsOf t.flags t.a false false ∧ t.sp = s.sp ∧
      t.pc = s.pc + 2 ∧ Frame [.a] [] 7 s t)

/-- INR and DCR (41_arithmetic.md R153, R154). AC after DCR is decision D7 (log entry 8). -/
def Obligations.InrAndDcrKeepCarry : Prop :=
  ∀ (dst : Reg) (s : State),
    (∃ t, exec (.inr dst) s = .next t ∧ (t.reg dst).toNat = ((s.reg dst).toNat + 1) % 256 ∧
      FlagsOf t.flags (t.reg dst) (decide ((s.reg dst).toNat % 16 = 15)) (carryOf s) ∧ t.sp = s.sp ∧ t.pc = s.pc + 1 ∧
      Frame [dst] (if dst = .m then [s.hl] else []) (if dst = .m then 10 else 5) s t) ∧
    (∃ t, exec (.dcr dst) s = .next t ∧ (t.reg dst).toNat = ((s.reg dst).toNat + 255) % 256 ∧
      FlagsOf t.flags (t.reg dst) (decide ((s.reg dst).toNat % 16 ≠ 0)) (carryOf s) ∧ t.sp = s.sp ∧ t.pc = s.pc + 1 ∧
      Frame [dst] (if dst = .m then [s.hl] else []) (if dst = .m then 10 else 5) s t)

/-- INX and DCX (41_arithmetic.md R155, R156). The pair codes and the order of a pair are B3 and B4 (log entry 21). -/
def Obligations.InxAndDcxChangeNoFlag : Prop :=
  ∀ (p : RegPair) (s : State),
    (encode (.inx p) = [BitVec.ofNat 8 (0x03 + 16 * p.code.toNat)] ∧
      ∃ t, exec (.inx p) s = .next t ∧ pairNat t p = (pairNat s p + 1) % 65536 ∧ (p ≠ .sp → t.sp = s.sp) ∧
        t.flags = s.flags ∧ t.pc = s.pc + 1 ∧ Frame (pairRegs p) [] 5 s t) ∧
    (encode (.dcx p) = [BitVec.ofNat 8 (0x0B + 16 * p.code.toNat)] ∧
      ∃ t, exec (.dcx p) s = .next t ∧ pairNat t p = (pairNat s p + 65535) % 65536 ∧ (p ≠ .sp → t.sp = s.sp) ∧
        t.flags = s.flags ∧ t.pc = s.pc + 1 ∧ Frame (pairRegs p) [] 5 s t)

/-- DAD (41_arithmetic.md R157). The place of C is B1, the pair codes and the order of a pair are B3 and B4 (log entries 20 and 21). -/
def Obligations.DadAddsToHl : Prop :=
  ∀ (p : RegPair) (s : State),
    encode (.dad p) = [BitVec.ofNat 8 (0x09 + 16 * p.code.toNat)] ∧
      ∃ t, exec (.dad p) s = .next t ∧ pairNat t .hl = (pairNat s .hl + pairNat s p) % 65536 ∧
        OnlyCarry s.flags t.flags (decide (65535 < pairNat s .hl + pairNat s p)) ∧ t.sp = s.sp ∧ t.pc = s.pc + 1 ∧
        Frame [.h, .l] [] 10 s t

/-- DAA (41_arithmetic.md R158), under conflict resolution C1 and decision D11 (log entry 12). -/
def Obligations.DaaAdjustsA : Prop :=
  ∀ s : State,
    let low := s.a.toNat % 16
    let high := s.a.toNat / 16
    let highDue := decide (9 < high) || carryOf s || (decide (9 ≤ high) && decide (9 < low))
    let corr := (if 9 < low ∨ s.flags.getLsbD 4 = true then 6 else 0) + (if highDue then 0x60 else 0)
    ∃ t, exec .daa s = .next t ∧ t.a.toNat = (s.a.toNat + corr) % 256 ∧
      FlagsOf t.flags t.a (decide (16 ≤ low + corr % 16)) (carryOf s || highDue) ∧ t.sp = s.sp ∧ t.pc = s.pc + 1 ∧
      Frame [.a] [] 4 s t

/-- The rotates (42_logical.md R188 to R191), general knowledge of the spec (B9, D4; log entries 24 and 5). -/
def Obligations.RotatesMoveEveryBit : Prop :=
  ∀ s : State,
    (∃ t, exec .rlc s = .next t ∧ (∀ k, k < 8 → t.a.getLsbD k = if k = 0 then s.a.getLsbD 7 else s.a.getLsbD (k - 1)) ∧
      OnlyCarry s.flags t.flags (s.a.getLsbD 7) ∧ t.sp = s.sp ∧ t.pc = s.pc + 1 ∧ Frame [.a] [] 4 s t) ∧
    (∃ t, exec .rrc s = .next t ∧ (∀ k, k < 8 → t.a.getLsbD k = if k = 7 then s.a.getLsbD 0 else s.a.getLsbD (k + 1)) ∧
      OnlyCarry s.flags t.flags (s.a.getLsbD 0) ∧ t.sp = s.sp ∧ t.pc = s.pc + 1 ∧ Frame [.a] [] 4 s t) ∧
    (∃ t, exec .ral s = .next t ∧ (∀ k, k < 8 → t.a.getLsbD k = if k = 0 then carryOf s else s.a.getLsbD (k - 1)) ∧
      OnlyCarry s.flags t.flags (s.a.getLsbD 7) ∧ t.sp = s.sp ∧ t.pc = s.pc + 1 ∧ Frame [.a] [] 4 s t) ∧
    (∃ t, exec .rar s = .next t ∧ (∀ k, k < 8 → t.a.getLsbD k = if k = 7 then carryOf s else s.a.getLsbD (k + 1)) ∧
      OnlyCarry s.flags t.flags (s.a.getLsbD 0) ∧ t.sp = s.sp ∧ t.pc = s.pc + 1 ∧ Frame [.a] [] 4 s t)

/-- CMA, STC, CMC (42_logical.md R192 to R194), general knowledge of the spec (B9, D4; log entries 24 and 5). -/
def Obligations.CmaStcCmc : Prop :=
  ∀ s : State,
    (∃ t, exec .cma s = .next t ∧ t.a.toNat = 255 - s.a.toNat ∧ FlowsOn 1 s t ∧ Frame [.a] [] 4 s t) ∧
    (∃ t, exec .stc s = .next t ∧ OnlyCarry s.flags t.flags true ∧ t.sp = s.sp ∧ t.pc = s.pc + 1 ∧ Frame [] [] 4 s t) ∧
    (∃ t, exec .cmc s = .next t ∧ OnlyCarry s.flags t.flags (!carryOf s) ∧ t.sp = s.sp ∧ t.pc = s.pc + 1 ∧
      Frame [] [] 4 s t)

/-- JMP and PCHL (43_branch.md R210, R251), general knowledge of the spec (B8, D4; log entries 24 and 5). -/
def Obligations.JmpAndPchlJump : Prop :=
  ∀ (addr : Word) (s : State), JumpsIf true addr s (exec (.jmp addr) s) ∧
    ∃ t, exec .pchl s = .next t ∧ t.pc.toNat = 256 * s.h.toNat + s.l.toNat ∧ t.flags = s.flags ∧ t.sp = s.sp ∧
      Frame [] [] 5 s t

/-- The conditional jumps (43_branch.md R211 to R219; conditions of 10_state.md R29, B2, log entry 20). -/
def Obligations.ConditionalJumps : Prop :=
  ∀ (addr : Word) (s : State),
    JumpsIf (!s.flags.getLsbD 6) addr s (exec (.jnz addr) s) ∧
    JumpsIf (s.flags.getLsbD 6) addr s (exec (.jz addr) s) ∧
    JumpsIf (!s.flags.getLsbD 0) addr s (exec (.jnc addr) s) ∧
    JumpsIf (s.flags.getLsbD 0) addr s (exec (.jc addr) s) ∧
    JumpsIf (!s.flags.getLsbD 2) addr s (exec (.jpo addr) s) ∧
    JumpsIf (s.flags.getLsbD 2) addr s (exec (.jpe addr) s) ∧
    JumpsIf (!s.flags.getLsbD 7) addr s (exec (.jp addr) s) ∧
    JumpsIf (s.flags.getLsbD 7) addr s (exec (.jm addr) s)

/-- CALL and RST (43_branch.md R220, R250), with the spec's general knowledge of CALL and of the stack's byte order (B8, B5; log
entries 24 and 22). -/
def Obligations.CallAndRstPushPc : Prop :=
  ∀ (addr : Word) (n : BitVec 3) (s : State),
    Calls addr (s.pc + 3) 17 s (exec (.call addr) s) ∧ Calls (BitVec.ofNat 16 (8 * n.toNat)) (s.pc + 1) 11 s (exec (.rst n) s)

/-- The conditional calls (43_branch.md R221 to R229; conditions B2, byte order B5, log entries 20 and 22). -/
def Obligations.ConditionalCalls : Prop :=
  ∀ (addr : Word) (s : State),
    (if !s.flags.getLsbD 6 then Calls addr (s.pc + 3) 17 s (exec (.cnz addr) s) else OnlyFlowsOn 3 11 s (exec (.cnz addr) s)) ∧
    (if s.flags.getLsbD 6 then Calls addr (s.pc + 3) 17 s (exec (.cz addr) s) else OnlyFlowsOn 3 11 s (exec (.cz addr) s)) ∧
    (if !s.flags.getLsbD 0 then Calls addr (s.pc + 3) 17 s (exec (.cnc addr) s) else OnlyFlowsOn 3 11 s (exec (.cnc addr) s)) ∧
    (if s.flags.getLsbD 0 then Calls addr (s.pc + 3) 17 s (exec (.cc addr) s) else OnlyFlowsOn 3 11 s (exec (.cc addr) s)) ∧
    (if !s.flags.getLsbD 2 then Calls addr (s.pc + 3) 17 s (exec (.cpo addr) s) else OnlyFlowsOn 3 11 s (exec (.cpo addr) s)) ∧
    (if s.flags.getLsbD 2 then Calls addr (s.pc + 3) 17 s (exec (.cpe addr) s) else OnlyFlowsOn 3 11 s (exec (.cpe addr) s)) ∧
    (if !s.flags.getLsbD 7 then Calls addr (s.pc + 3) 17 s (exec (.cp addr) s) else OnlyFlowsOn 3 11 s (exec (.cp addr) s)) ∧
    (if s.flags.getLsbD 7 then Calls addr (s.pc + 3) 17 s (exec (.cm addr) s) else OnlyFlowsOn 3 11 s (exec (.cm addr) s))

/-- RET (43_branch.md R230), general knowledge of the spec (B8, B5, D4; log entries 24, 22 and 5). -/
def Obligations.RetPopsPc : Prop :=
  ∀ s : State, Returns 10 s (exec .ret s)

/-- The conditional returns (43_branch.md R231 to R239; conditions B2, byte order B5, log entries 20 and 22). -/
def Obligations.ConditionalReturns : Prop :=
  ∀ s : State,
    (if !s.flags.getLsbD 6 then Returns 11 s (exec .rnz s) else OnlyFlowsOn 1 5 s (exec .rnz s)) ∧
    (if s.flags.getLsbD 6 then Returns 11 s (exec .rz s) else OnlyFlowsOn 1 5 s (exec .rz s)) ∧
    (if !s.flags.getLsbD 0 then Returns 11 s (exec .rnc s) else OnlyFlowsOn 1 5 s (exec .rnc s)) ∧
    (if s.flags.getLsbD 0 then Returns 11 s (exec .rc s) else OnlyFlowsOn 1 5 s (exec .rc s)) ∧
    (if !s.flags.getLsbD 2 then Returns 11 s (exec .rpo s) else OnlyFlowsOn 1 5 s (exec .rpo s)) ∧
    (if s.flags.getLsbD 2 then Returns 11 s (exec .rpe s) else OnlyFlowsOn 1 5 s (exec .rpe s)) ∧
    (if !s.flags.getLsbD 7 then Returns 11 s (exec .rp s) else OnlyFlowsOn 1 5 s (exec .rp s)) ∧
    (if s.flags.getLsbD 7 then Returns 11 s (exec .rm s) else OnlyFlowsOn 1 5 s (exec .rm s))

/-- PUSH (44_stack_io_control.md R260, R261), with the spec's byte order (B5, B4; log entries 22 and 21). -/
def Obligations.PushStoresBelowSp : Prop :=
  ∀ (p : PushPair) (s : State), p.isRegPair = true →
    (∃ t, exec (.push p) s = .next t ∧ t.sp = s.sp - 2 ∧ t.flags = s.flags ∧ t.pc = s.pc + 1 ∧
      Frame [] [s.sp - 1, s.sp - 2] 11 s t ∧
      match p with
      | .bc => t.memRead (s.sp - 1) = s.b ∧ t.memRead (s.sp - 2) = s.c
      | .de => t.memRead (s.sp - 1) = s.d ∧ t.memRead (s.sp - 2) = s.e
      | .hl => t.memRead (s.sp - 1) = s.h ∧ t.memRead (s.sp - 2) = s.l
      | .psw => False) ∧
    (∃ t, exec .pushPsw s = .next t ∧ t.memRead (s.sp - 1) = s.a ∧
      (∀ k, k < 8 → (t.memRead (s.sp - 2)).getLsbD k =
        if k = 1 then true else if k = 3 ∨ k = 5 then false else s.flags.getLsbD k) ∧
      t.sp = s.sp - 2 ∧ t.flags = s.flags ∧ t.pc = s.pc + 1 ∧ Frame [] [s.sp - 1, s.sp - 2] 11 s t)

/-- POP (44_stack_io_control.md R262, R263), with the spec's byte order (B5, B4; log entries 22 and 21). -/
def Obligations.PopLoadsFromSp : Prop :=
  ∀ (p : PushPair) (s : State), p.isRegPair = true →
    (∃ t, exec (.pop p) s = .next t ∧ t.sp = s.sp + 2 ∧ t.flags = s.flags ∧ t.pc = s.pc + 1 ∧
      match p with
      | .bc => t.b = s.memRead (s.sp + 1) ∧ t.c = s.memRead s.sp ∧ Frame [.b, .c] [] 10 s t
      | .de => t.d = s.memRead (s.sp + 1) ∧ t.e = s.memRead s.sp ∧ Frame [.d, .e] [] 10 s t
      | .hl => t.h = s.memRead (s.sp + 1) ∧ t.l = s.memRead s.sp ∧ Frame [.h, .l] [] 10 s t
      | .psw => False) ∧
    (∃ t, exec .popPsw s = .next t ∧ t.a = s.memRead (s.sp + 1) ∧
      (∀ k, k < 8 → t.flags.getLsbD k =
        if k = 1 then true else if k = 3 ∨ k = 5 then false else (s.memRead s.sp).getLsbD k) ∧
      t.sp = s.sp + 2 ∧ t.pc = s.pc + 1 ∧ Frame [.a] [] 10 s t)

/-- XTHL (44_stack_io_control.md R264), general knowledge of the spec (B8, D4, D12; log entries 24, 5 and 13). -/
def Obligations.XthlSwapsHlWithStack : Prop :=
  ∀ s : State, ∃ t, exec .xthl s = .next t ∧ t.l = s.memRead s.sp ∧ t.h = s.memRead (s.sp + 1) ∧
    t.memRead s.sp = s.l ∧ t.memRead (s.sp + 1) = s.h ∧ FlowsOn 1 s t ∧ Frame [.h, .l] [s.sp, s.sp + 1] 18 s t

/-- SPHL (44_stack_io_control.md R265), general knowledge of the spec (B8, D4; log entries 24 and 5). -/
def Obligations.SphlLoadsSp : Prop :=
  ∀ s : State, ∃ t, exec .sphl s = .next t ∧ t.sp.toNat = 256 * s.h.toNat + s.l.toNat ∧ t.flags = s.flags ∧
    t.pc = s.pc + 1 ∧ Frame [] [] 5 s t

/-- IN (44_stack_io_control.md R270; 20_memory.md R61, R62; 60_exceptions.md R321). Port numbers and reads are D6, D15, D16 (log
entries 7 and 16). -/
def Obligations.InReadsPort : Prop :=
  ∀ (p : Byte) (s : State),
    let timer : Prop := p = 0x30#8 ∨ p = 0x31#8 ∨ p = 0x32#8
    ∃ t, exec (.inPort p) s = .next t ∧ FlowsOn 2 s t ∧
      Frame [.a] [] 10 { s with devState := t.devState } t ∧
      (p = 0x30#8 → t.a.toNat = s.tReload.toNat % 256) ∧ (p = 0x31#8 → t.a.toNat = s.tReload.toNat / 256) ∧
      (p = 0x32#8 → t.a.toNat = 2 * s.tPending.toNat + s.tEnabled.toNat) ∧
      (¬ timer → s.boundTo p = none → t.a = 0xFF#8) ∧
      (timer ∨ s.boundTo p = none → t.devState = s.devState) ∧
      (∀ d, ¬ timer → s.boundTo p = some d →
        t.a = (Config.deviceRead d (s.device d) p).1 ∧ t.device d = (Config.deviceRead d (s.device d) p).2 ∧
        ∀ e, e ≠ d → t.device e = s.device e)

/-- OUT (44_stack_io_control.md R271; 20_memory.md R63; 60_exceptions.md R322 to R324). Port numbers, arm and enable are D6, D17,
D18 (log entries 7 and 17). -/
def Obligations.OutWritesPort : Prop :=
  ∀ (p : Byte) (s : State),
    let timer : Prop := p = 0x30#8 ∨ p = 0x31#8 ∨ p = 0x32#8
    let armed := mkWord s.a (loByte s.tReload)
    ∃ t, exec (.outPort p) s = .next t ∧ FlowsOn 2 s t ∧
      (p = 0x30#8 → Frame [] [] 10 { s with tReload := mkWord (hiByte s.tReload) s.a } t) ∧
      (p = 0x31#8 → Frame [] [] 10 { s with tReload := armed, tCounter := armed } t) ∧
      (p = 0x32#8 → Frame [] [] 10
        { s with tEnabled := s.a.getLsbD 0, tPending := !s.a.getLsbD 1 && s.tPending } t) ∧
      (¬ timer → s.boundTo p = none → Frame [] [] 10 s t) ∧
      (∀ d, ¬ timer → s.boundTo p = some d →
        Frame [] [] 10 { s with devState := t.devState } t ∧
        t.device d = Config.deviceWrite d (s.device d) p s.a ∧ ∀ e, e ≠ d → t.device e = s.device e)

/-- EI, DI, HLT (44_stack_io_control.md R272, R273, R275). EI and DI are general knowledge of the spec (B10, log entry 24). -/
def Obligations.EiDiHltSetControl : Prop :=
  ∀ s : State,
    (∃ t, exec .ei s = .next t ∧ FlowsOn 1 s t ∧ Frame [] [] 4 { s with inte := true } t) ∧
    (∃ t, exec .di s = .next t ∧ FlowsOn 1 s t ∧ Frame [] [] 4 { s with inte := false } t) ∧
    (∃ t, exec .hlt s = .next t ∧ FlowsOn 1 s t ∧ Frame [] [] 7 { s with halted := true } t)

/-- NOP and its duplicates (44_stack_io_control.md R276, R277). -/
def Obligations.NopsOnlyMoveOn : Prop :=
  ∀ s : State,
    (decode [0x00#8] = .ok (.nop, []) ∧ OnlyFlowsOn 1 4 s (exec .nop s)) ∧
    (decode [0x08#8] = .ok (.nop08, []) ∧ OnlyFlowsOn 1 4 s (exec .nop08 s)) ∧
    (decode [0x10#8] = .ok (.nop10, []) ∧ OnlyFlowsOn 1 4 s (exec .nop10 s)) ∧
    (decode [0x18#8] = .ok (.nop18, []) ∧ OnlyFlowsOn 1 4 s (exec .nop18 s)) ∧
    (decode [0x20#8] = .ok (.nop20, []) ∧ OnlyFlowsOn 1 4 s (exec .nop20 s)) ∧
    (decode [0x28#8] = .ok (.nop28, []) ∧ OnlyFlowsOn 1 4 s (exec .nop28 s)) ∧
    (decode [0x30#8] = .ok (.nop30, []) ∧ OnlyFlowsOn 1 4 s (exec .nop30 s)) ∧
    (decode [0x38#8] = .ok (.nop38, []) ∧ OnlyFlowsOn 1 4 s (exec .nop38 s))

/-- The state after construction (10_state.md R40). INTE, the timer and the total are decisions D8, D9, D10 (log entries 9, 10, 11). -/
def Obligations.ResetState : Prop :=
  (∀ r : Reg, State.reset.reg r = 0x00#8) ∧ State.reset.flags = 0x02#8 ∧ State.reset.sp = 0x0000#16 ∧
    State.reset.pc = 0x0000#16 ∧ (∀ x : Word, State.reset.memRead x = 0x00#8) ∧
    (∀ p : Byte, State.reset.boundTo p = none) ∧ State.reset.inte = false ∧ State.reset.halted = false ∧
    State.reset.tCounter = 0x0000#16 ∧ State.reset.tReload = 0x0000#16 ∧ State.reset.tEnabled = false ∧
    State.reset.tPending = false ∧ State.reset.cyclesTotal = 0 ∧ Inv State.reset

/-- The invariant is inductive: R27 of 10_state.md for FLAGS, and the canonical form of the model's tables (log entry 2). -/
def Obligations.StepKeepsInvariant : Prop :=
  ∀ s t : State, Inv s → step s = .next t → Inv t

/-- The flags invariant (10_state.md R27). The host's writes are decision D20 (log entry 19). -/
def Obligations.FlagsFixedBitsKept : Prop :=
  FlagsFixed State.reset.flags ∧
    (∀ (i : Instr) (s t : State), FlagsFixed s.flags → exec i s = .next t → FlagsFixed t.flags) ∧
    (∀ s t : State, FlagsFixed s.flags → step s = .next t → FlagsFixed t.flags) ∧
    (∀ s t : State, exec .popPsw s = .next t → FlagsFixed t.flags) ∧
    (∀ (s : State) (v : Byte), FlagsFixed (s.hostSetFlags v).flags) ∧
    (∀ (s : State) (v : Word), FlagsFixed (s.hostSetPushPair .psw v).flags) ∧
    (∀ (s : State) (f : Flag) (v : Bool), FlagsFixed s.flags → FlagsFixed (s.hostSetFlag f v).flags)

/-- HALTED (10_state.md R33). That the halted machine has no step is decision D19 (60_exceptions.md R340, log entry 18). -/
def Obligations.OnlyHltHalts : Prop :=
  (∀ s t : State, step s = .next t → (t.halted = true ↔ Fetching s ∧ s.memRead s.pc = 0x76#8)) ∧
    ∀ s t : State, s.halted = true → step s ≠ .next t

/-- INTE (10_state.md R32). The two byte values are B6 (log entry 23). -/
def Obligations.InteChangesOnlyByEiDiDelivery : Prop :=
  ∀ s t : State, step s = .next t → t.inte ≠ s.inte →
    (s.interruptDue = true ∧ t.inte = false) ∨ (Fetching s ∧ s.memRead s.pc = 0xFB#8 ∧ t.inte = true) ∨
      (Fetching s ∧ s.memRead s.pc = 0xF3#8 ∧ t.inte = false)

/-- The bounds of the table of 70_reset_and_hazards.md R363 (decisions D4, D5; log entries 5 and 6). -/
def Obligations.StepTakesFourToEighteenCycles : Prop :=
  ∀ s t : State, step s = .next t → s.cyclesTotal + 4 ≤ t.cyclesTotal ∧ t.cyclesTotal ≤ s.cyclesTotal + 18

/-- No instruction reads CYCLES_TOTAL and no rule depends on it (10_state.md R37). -/
def Obligations.CyclesTotalIsUnobservable : Prop :=
  ∀ (s : State) (k : Nat),
    step { s with cyclesTotal := s.cyclesTotal + k } =
      mapNext (fun t => { t with cyclesTotal := t.cyclesTotal + k }) (step s)

/-- The timer ports bypass the table (20_memory.md R61), and no instruction changes it (10_state.md R35). -/
def Obligations.TimerPortBindingIsIgnored : Prop :=
  (∀ (s : State) (p : Byte) (d : Config.DeviceId), p = 0x30#8 ∨ p = 0x31#8 ∨ p = 0x32#8 →
      step (s.bind p d) = mapNext (fun t => t.bind p d) (step s)) ∧
    ∀ s t : State, step s = .next t → t.ioTab = s.ioTab

/-- A store is read back (20_memory.md R52, R53, R55; 40_data_transfer.md R116 to R119; B7, log entry 24). -/
def Obligations.StoredValueIsLoadedBack : Prop :=
  ∀ (addr : Word) (v w : Byte) (s : State),
    (∃ t u, exec (.sta addr) s = .next t ∧ exec (.lda addr) { t with a := v } = .next u ∧ u.a = s.a) ∧
    (∃ t u, exec (.shld addr) s = .next t ∧ exec (.lhld addr) { t with h := v, l := w } = .next u ∧ u.h = s.h ∧ u.l = s.l)

/-- The model's representation of MEM (10_state.md R36; log entry 2) has one list for each memory. -/
def Obligations.CanonicalMemoryIsUnique : Prop :=
  ∀ m n : Memory, Memory.wf m = true → Memory.wf n = true →
    (∀ x : Word, Sparse.get Memory.unlisted m x.toNat = Sparse.get Memory.unlisted n x.toNat) → m = n

/-- The CALL and RET round trip (20_memory.md R57, 95_test_vectors.md V3) and the return from an interrupt (60_exceptions.md R307). -/
def Obligations.ReturnResumesTheCaller : Prop :=
  ∀ (addr : Word) (n : BitVec 3) (s : State),
    (∃ t u, exec (.call addr) s = .next t ∧ exec .ret t = .next u ∧ u.pc = s.pc + 3 ∧ u.sp = s.sp) ∧
    (∃ t u, exec (.rst n) s = .next t ∧ exec .ret t = .next u ∧ u.pc = s.pc + 1 ∧ u.sp = s.sp) ∧
    (s.halted = false → s.interruptDue = true →
      ∃ t u, step s = .next t ∧ exec .ret t = .next u ∧ u.pc = s.pc ∧ u.sp = s.sp ∧ u.inte = false)

/-- The PUSH and POP round trips (44_stack_io_control.md R260 to R263, 95_test_vectors.md V5). -/
def Obligations.PushThenPopRestores : Prop :=
  ∀ (p : PushPair) (s : State), p.isRegPair = true →
    (∃ t u, exec (.push p) s = .next t ∧ exec (.pop p) t = .next u ∧ u.pushPair p = s.pushPair p ∧ u.sp = s.sp) ∧
    (∃ t u, exec .pushPsw s = .next t ∧ exec .popPsw t = .next u ∧ u.a = s.a ∧ u.sp = s.sp ∧
      (FlagsFixed s.flags → u.flags = s.flags) ∧
      (t.memRead t.sp).getLsbD 3 = false ∧ (t.memRead t.sp).getLsbD 5 = false)

/-- T_PENDING is set by `tick` on expiry alone and cleared by delivery and by an acknowledging write alone (60_exceptions.md R304, R325).
Port numbers are D6, the byte value of OUT is B6, its cycles D4, the armed value D17, the delivery cycles D5 (log entries 7, 23, 5,
17 and 6). -/
def Obligations.PendingIsSetOnlyByExpiry : Prop :=
  ∀ s t : State, step s = .next t →
    let n := t.cyclesTotal - s.cyclesTotal
    (s.tPending = false → (t.tPending = true ↔ Expires n s t)) ∧
    (Expires n s t → t.tPending = true ∧ t.tCounter = t.tReload) ∧
    (s.tPending = true → ¬ Expires n s t → (t.tPending = false ↔ s.interruptDue = true ∨ Acknowledges s)) ∧
    (WritesPort 0x31#8 s → n = 10)

/-- The timer's settings (60_exceptions.md R322 to R325). Port numbers are D6, the byte value is B6 (log entries 7 and 23). -/
def Obligations.TimerSettingsChangeOnlyByOut : Prop :=
  ∀ s t : State, step s = .next t →
    (t.tReload ≠ s.tReload → Fetching s ∧ s.memRead s.pc = 0xD3#8 ∧
      (s.memRead (s.pc + 1) = 0x30#8 ∨ s.memRead (s.pc + 1) = 0x31#8)) ∧
    (t.tEnabled ≠ s.tEnabled → Fetching s ∧ s.memRead s.pc = 0xD3#8 ∧ s.memRead (s.pc + 1) = 0x32#8)

/-- EI without delay (44_stack_io_control.md R272), decision D13 (log entry 14). The byte value is B6, the order of the pushed bytes B5
(log entries 23 and 22). -/
def Obligations.EiTakesEffectAtOnce : Prop :=
  ∀ s : State, Fetching s → s.memRead s.pc = 0xFB#8 → s.tPending = true →
    ∃ t u, step s = .next t ∧ step t = .next u ∧ u.pc = 0x0038#16 ∧ u.inte = false ∧ u.sp = s.sp - 2 ∧
      u.memRead (s.sp - 1) = hiByte (s.pc + 1) ∧ u.memRead (s.sp - 2) = loByte (s.pc + 1)

/-- `load_program` (70_reset_and_hazards.md R353). The wrap past the top is decision D21 (log entry 19). -/
def Obligations.LoadProgramPlacesBytes : Prop :=
  ∀ (s : State) (bytes : List Byte) (start : Word), bytes.length ≤ 65536 →
    (∀ (k : Nat) (v : Byte), bytes[k]? = some v → (s.loadProgram bytes start).memRead (start + BitVec.ofNat 16 k) = v) ∧
    (∀ x : Word, (∀ k, k < bytes.length → x ≠ start + BitVec.ofNat 16 k) →
      (s.loadProgram bytes start).memRead x = s.memRead x) ∧
    s.loadProgram bytes start = { s with mem := (s.loadProgram bytes start).mem, pc := start }

/-- Host accessors and `bind` (70_reset_and_hazards.md R354, R355; 10_state.md R25, R28, R30). Flag writes are decision D20, a bind at a
timer port D22 (log entry 19), flag positions B1, the order of a pair B3 and B4 (log entries 20 and 21). -/
def Obligations.HostAccessorsAndBind : Prop :=
  ∀ s : State,
    (∀ (f : Flag) (v : Bool), (s.hostSetFlag f v).hostGetFlag f = v ∧
      (∀ k, k ≠ f.bit → (s.hostSetFlag f v).flags.getLsbD k = s.flags.getLsbD k) ∧
      s.hostSetFlag f v = { s with flags := (s.hostSetFlag f v).flags }) ∧
    (∀ v : Byte, (∀ f : Flag, (s.hostSetFlags v).hostGetFlag f = v.getLsbD f.bit) ∧ FlagsFixed (s.hostSetFlags v).flags ∧
      s.hostSetFlags v = { s with flags := (s.hostSetFlags v).flags }) ∧
    (∀ (r : Reg) (v : Byte), (s.hostSetReg r v).reg r = v ∧
      (∀ x : Word, ¬ (r = .m ∧ x = s.hl) → (s.hostSetReg r v).memRead x = s.memRead x) ∧
      SameRegsBut [r] s (s.hostSetReg r v) ∧
      { s.hostSetReg r v with a := s.a, b := s.b, c := s.c, d := s.d, e := s.e, h := s.h, l := s.l, mem := s.mem } = s) ∧
    (∀ (p : RegPair) (v : Word), pairNat (s.hostSetPair p v) p = v.toNat ∧ SameRegsBut (pairRegs p) s (s.hostSetPair p v) ∧
      (p ≠ .sp → (s.hostSetPair p v).sp = s.sp) ∧
      { s.hostSetPair p v with b := s.b, c := s.c, d := s.d, e := s.e, h := s.h, l := s.l, sp := s.sp } = s) ∧
    (∀ (p : PushPair) (v : Word),
      let t := s.hostSetPushPair p v
      match p with
      | .bc => t.pushPair .bc = v ∧ pairNat t .bc = v.toNat ∧ { t with b := s.b, c := s.c } = s
      | .de => t.pushPair .de = v ∧ pairNat t .de = v.toNat ∧ { t with d := s.d, e := s.e } = s
      | .hl => t.pushPair .hl = v ∧ pairNat t .hl = v.toNat ∧ { t with h := s.h, l := s.l } = s
      | .psw => t.a.toNat = v.toNat / 256 ∧
          (∀ k, k < 8 → t.flags.getLsbD k =
            if k = 1 then true else if k = 3 ∨ k = 5 then false else v.getLsbD k) ∧
          (t.pushPair .psw).toNat = 256 * t.a.toNat + t.flags.toNat ∧ { t with a := s.a, flags := s.flags } = s) ∧
    (∀ v : Word, (s.hostSetPc v).pc = v ∧ { s.hostSetPc v with pc := s.pc } = s) ∧
    (∀ (p q : Byte) (d : Config.DeviceId), (s.bind p d).boundTo q = (if q = p then some d else s.boundTo q) ∧
      s.bind p d = { s with ioTab := (s.bind p d).ioTab })

/-- The end of a run (00_scope.md R17, 60_exceptions.md R341). -/
def Obligations.RunEndsOnlyAfterHlt : Prop :=
  ∀ (n : Nat) (s t : State), run n s = .halted t →
    t.halted = true ∧
    ((s.halted = true ∧ t = s) ∨
      ∃ k u, k < n ∧ run k s = .outOfSteps u ∧ Fetching u ∧ u.memRead u.pc = 0x76#8 ∧ step u = .next t) ∧
    ∀ m, run (n + m) s = .halted t
end

