-- ==== Sys2Proof/Laws/Decode.lean ====
section
/-! SUPPORT. Field codes and their decoding are inverse. -/

namespace Sys2Proof

@[simp] theorem Reg.ofCode_code (r : Reg) : Reg.ofCode r.code = r := by cases r <;> rfl

@[simp] theorem Reg.code_ofCode (k : BitVec 3) : (Reg.ofCode k).code = k := by revert k; decide

@[simp] theorem RegPair.ofCode_code (p : RegPair) : RegPair.ofCode p.code = p := by cases p <;> rfl

@[simp] theorem RegPair.code_ofCode (k : BitVec 2) : (RegPair.ofCode k).code = k := by revert k; decide

@[simp] theorem PushPair.ofCode_code (p : PushPair) : PushPair.ofCode p.code = p := by cases p <;> rfl

@[simp] theorem PushPair.code_ofCode (k : BitVec 2) : (PushPair.ofCode k).code = k := by revert k; decide

@[simp] theorem Cond.ofCode_code (c : Cond) : Cond.ofCode c.code = c := by cases c <;> rfl

@[simp] theorem Cond.code_ofCode (k : BitVec 3) : (Cond.ofCode k).code = k := by revert k; decide

end Sys2Proof
end

