-- ==== Sys2Proof/Laws/Flags.lean ====
section
/-! SUPPORT. The flags byte: what the builders of 41_arithmetic.md write, as numbers, and that they keep the fixed bits. -/

namespace Sys2Proof.Machine

/-- `flags_arith` writes the S, Z and P of its result and the two carries it is given (R140). -/
theorem flagsArith_flagsOf (r : Byte) (cy ac : Bool) : FlagsOf (flagsArith r cy ac) r ac cy := by
  have h : ∀ r : Byte, ∀ cy ac : Bool, (flagsArith r cy ac).toNat =
      128 * (decide (128 ≤ r.toNat)).toNat + 64 * (decide (r.toNat = 0)).toNat + 16 * ac.toNat +
        4 * (EvenOnes r).toNat + 2 + cy.toNat := by decide +kernel
  exact h r cy ac

/-- `FLAGS.C <- v` changes bit 0 alone. -/
theorem setFlagC_onlyCarry (f : Byte) (v : Bool) : OnlyCarry f (setFlagC f v) v := by
  have h0 : ∀ f : Byte, ∀ v : Bool, (setFlagC f v).getLsbD 0 = v := by decide +kernel
  have h8 : ∀ f : Byte, ∀ v : Bool, ∀ k : Fin 8, k ≠ 0 → (setFlagC f v).getLsbD k = f.getLsbD k := by decide +kernel
  refine ⟨h0 f v, fun k hk => ?_⟩
  by_cases hlt : k < 8
  · exact h8 f v ⟨k, hlt⟩ (by simpa [Fin.ext_iff] using hk)
  · simp [Nat.le_of_not_lt hlt]

theorem flagsFixed_flagsArith (r : Byte) (cy ac : Bool) : FlagsFixed (flagsArith r cy ac) := by
  have h : ∀ r : Byte, ∀ cy ac : Bool, flagsArith r cy ac &&& 0x2A#8 = 0x02#8 := by decide +kernel
  exact h r cy ac

theorem flagsFixed_norm (v : Byte) : FlagsFixed (norm v) := by
  have h : ∀ v : Byte, norm v &&& 0x2A#8 = 0x02#8 := by decide +kernel
  exact h v

theorem flagsFixed_setFlagC {f : Byte} (h : FlagsFixed f) (v : Bool) : FlagsFixed (setFlagC f v) := by
  have hk : ∀ f : Byte, ∀ v : Bool, f &&& 0x2A#8 = 0x02#8 → setFlagC f v &&& 0x2A#8 = 0x02#8 := by decide +kernel
  exact hk f v h

/-- `norm` keeps a byte whose fixed bits are as R27 says. -/
theorem norm_of_flagsFixed {f : Byte} (h : FlagsFixed f) : norm f = f := by
  have hk : ∀ f : Byte, f &&& 0x2A#8 = 0x02#8 → norm f = f := by decide +kernel
  exact hk f h

end Sys2Proof.Machine
end

