-- ==== Sys2Proof/Laws/Sparse.lean ====
section
/-! SUPPORT. Sparse tables: what a key reads after a write, that a write keeps the canonical form, and that a canonical table
is determined by what its keys read. -/

namespace Sys2Proof.Machine

variable {α : Type}

theorem Sparse.get_erase_self (dflt : α) (t : List (Nat × α)) (x : Nat) :
    Sparse.get dflt (Sparse.erase t x) x = dflt := by
  induction t with
  | nil => rfl
  | cons cell rest ih =>
    obtain ⟨k, v⟩ := cell
    by_cases h : k = x <;> simp [Sparse.erase, Sparse.get, h, ih]

theorem Sparse.get_erase_other (dflt : α) (t : List (Nat × α)) {x y : Nat} (hne : y ≠ x) :
    Sparse.get dflt (Sparse.erase t x) y = Sparse.get dflt t y := by
  induction t with
  | nil => rfl
  | cons cell rest ih =>
    obtain ⟨k, v⟩ := cell
    by_cases h : k = x
    · subst h
      simp [Sparse.erase, Sparse.get, Ne.symm hne, ih]
    · simp [Sparse.erase, Sparse.get, h, ih]

theorem Sparse.get_insert_other (dflt : α) (t : List (Nat × α)) {x y : Nat} (w : α) (hne : y ≠ x) :
    Sparse.get dflt (Sparse.insert t x w) y = Sparse.get dflt t y := by
  induction t with
  | nil => simp [Sparse.insert, Sparse.get, Ne.symm hne]
  | cons cell rest ih =>
    obtain ⟨k, v⟩ := cell
    by_cases h : x < k <;> simp [Sparse.insert, Sparse.get, h, ih, Ne.symm hne]

theorem Sparse.get_insert_erase_self (dflt : α) (t : List (Nat × α)) (x : Nat) (w : α) :
    Sparse.get dflt (Sparse.insert (Sparse.erase t x) x w) x = w := by
  induction t with
  | nil => simp [Sparse.erase, Sparse.insert, Sparse.get]
  | cons cell rest ih =>
    obtain ⟨k, v⟩ := cell
    by_cases h : k = x
    · simpa [Sparse.erase, h] using ih
    · by_cases h' : x < k <;> simp [Sparse.erase, Sparse.insert, Sparse.get, h, h', ih]

/-- A key reads what was written to it. -/
@[simp] theorem Sparse.get_set_self [DecidableEq α] (dflt : α) (t : List (Nat × α)) (x : Nat) (w : α) :
    Sparse.get dflt (Sparse.set dflt t x w) x = w := by
  unfold Sparse.set
  split
  · rename_i h
    rw [Sparse.get_erase_self, h]
  · exact Sparse.get_insert_erase_self dflt t x w

/-- A write leaves every other key alone. -/
theorem Sparse.get_set_other [DecidableEq α] (dflt : α) (t : List (Nat × α)) {x y : Nat} (w : α) (hne : y ≠ x) :
    Sparse.get dflt (Sparse.set dflt t x w) y = Sparse.get dflt t y := by
  unfold Sparse.set
  split
  · exact Sparse.get_erase_other dflt t hne
  · rw [Sparse.get_insert_other dflt _ w hne, Sparse.get_erase_other dflt t hne]

theorem Sparse.above_erase {k : Nat} {t : List (Nat × α)} (h : Sparse.above k t = true) (x : Nat) :
    Sparse.above k (Sparse.erase t x) = true := by
  induction t with
  | nil => rfl
  | cons cell rest ih =>
    obtain ⟨j, v⟩ := cell
    simp only [Sparse.above, List.all_cons, Bool.and_eq_true] at h ih ⊢
    by_cases hx : j = x
    · simpa [Sparse.erase, hx] using ih h.2
    · simp only [Sparse.erase, hx, if_false, List.all_cons, Bool.and_eq_true]
      exact ⟨h.1, ih h.2⟩

theorem Sparse.above_insert {k : Nat} {t : List (Nat × α)} (h : Sparse.above k t = true) {x : Nat} (hx : k < x) (w : α) :
    Sparse.above k (Sparse.insert t x w) = true := by
  induction t with
  | nil => simpa [Sparse.insert, Sparse.above] using hx
  | cons cell rest ih =>
    obtain ⟨j, v⟩ := cell
    simp only [Sparse.above, List.all_cons, Bool.and_eq_true, decide_eq_true_eq] at h ih ⊢
    by_cases hj : x < j
    · simp only [Sparse.insert, hj, if_true, List.all_cons, Bool.and_eq_true, decide_eq_true_eq]
      exact ⟨hx, h.1, h.2⟩
    · simp only [Sparse.insert, hj, if_false, List.all_cons, Bool.and_eq_true, decide_eq_true_eq]
      exact ⟨h.1, ih h.2⟩

theorem Sparse.canonical_erase [DecidableEq α] {dflt : α} {t : List (Nat × α)} (h : Sparse.canonical dflt t = true) (x : Nat) :
    Sparse.canonical dflt (Sparse.erase t x) = true := by
  induction t with
  | nil => rfl
  | cons cell rest ih =>
    obtain ⟨j, v⟩ := cell
    simp only [Sparse.canonical, Bool.and_eq_true] at h
    by_cases hx : j = x
    · simpa [Sparse.erase, hx] using ih h.2
    · simp only [Sparse.erase, hx, if_false, Sparse.canonical, Bool.and_eq_true]
      exact ⟨⟨h.1.1, Sparse.above_erase h.1.2 x⟩, ih h.2⟩

theorem Sparse.above_trans {j k : Nat} {t : List (Nat × α)} (hjk : j ≤ k) (h : Sparse.above k t = true) :
    Sparse.above j t = true := by
  simp only [Sparse.above, List.all_eq_true, decide_eq_true_eq] at h ⊢
  intro cell hc
  exact lt_of_le_of_lt hjk (h cell hc)

theorem Sparse.canonical_insert_erase [DecidableEq α] {dflt : α} {t : List (Nat × α)} (h : Sparse.canonical dflt t = true)
    (x : Nat) {w : α} (hw : w ≠ dflt) : Sparse.canonical dflt (Sparse.insert (Sparse.erase t x) x w) = true := by
  induction t with
  | nil => simp [Sparse.erase, Sparse.insert, Sparse.canonical, Sparse.above, hw]
  | cons cell rest ih =>
    obtain ⟨j, v⟩ := cell
    simp only [Sparse.canonical, Bool.and_eq_true] at h
    by_cases hx : j = x
    · simpa [Sparse.erase, hx] using ih h.2
    · simp only [Sparse.erase, hx, if_false, Sparse.insert]
      split
      · rename_i hlt
        have habove := Sparse.above_erase h.1.2 x
        simp only [Sparse.canonical, Bool.and_eq_true, decide_eq_true_eq, ne_eq, Sparse.above, List.all_cons]
        refine ⟨⟨by simpa using hw, hlt, Sparse.above_trans (le_of_lt hlt) habove⟩, ⟨by simpa using h.1.1, habove⟩,
          Sparse.canonical_erase h.2 x⟩
      · rename_i hnlt
        simp only [Sparse.canonical, Bool.and_eq_true]
        exact ⟨⟨h.1.1, Sparse.above_insert (Sparse.above_erase h.1.2 x) (by omega) w⟩, ih h.2⟩

/-- A write keeps the canonical form. -/
theorem Sparse.canonical_set [DecidableEq α] {dflt : α} {t : List (Nat × α)} (h : Sparse.canonical dflt t = true)
    (x : Nat) (w : α) : Sparse.canonical dflt (Sparse.set dflt t x w) = true := by
  unfold Sparse.set
  split
  · exact Sparse.canonical_erase h x
  · rename_i hw
    exact Sparse.canonical_insert_erase h x hw

theorem Sparse.mem_erase {t : List (Nat × α)} {x : Nat} {cell : Nat × α} (h : cell ∈ Sparse.erase t x) : cell ∈ t := by
  induction t with
  | nil => simp [Sparse.erase] at h
  | cons c rest ih =>
    obtain ⟨j, v⟩ := c
    by_cases hx : j = x
    · exact List.mem_cons_of_mem _ (ih (by simpa [Sparse.erase, hx] using h))
    · simp only [Sparse.erase, hx, if_false, List.mem_cons] at h
      exact h.elim (fun e => e ▸ List.mem_cons_self) fun h => List.mem_cons_of_mem _ (ih h)

theorem Sparse.mem_insert {t : List (Nat × α)} {x : Nat} {w : α} {cell : Nat × α} (h : cell ∈ Sparse.insert t x w) :
    cell = (x, w) ∨ cell ∈ t := by
  induction t with
  | nil => exact .inl (by simpa [Sparse.insert] using h)
  | cons c rest ih =>
    obtain ⟨j, v⟩ := c
    by_cases hx : x < j
    · simpa [Sparse.insert, hx] using h
    · simp only [Sparse.insert, hx, if_false, List.mem_cons] at h
      rcases h with h | h
      · exact .inr (h ▸ List.mem_cons_self)
      · exact (ih h).imp id fun h => List.mem_cons_of_mem _ h

/-- A write at a key below `n` keeps every key below `n`. -/
theorem Sparse.below_set [DecidableEq α] {dflt : α} {n : Nat} {t : List (Nat × α)} (h : Sparse.below n t = true) {x : Nat}
    (hx : x < n) (w : α) : Sparse.below n (Sparse.set dflt t x w) = true := by
  simp only [Sparse.below, List.all_eq_true, decide_eq_true_eq] at h ⊢
  intro cell hc
  unfold Sparse.set at hc
  split at hc
  · exact h cell (Sparse.mem_erase hc)
  · rcases Sparse.mem_insert hc with rfl | hc
    · exact hx
    · exact h cell (Sparse.mem_erase hc)

end Sys2Proof.Machine
end

