-- ==== Sys2Proof/Laws/State.lean ====
section
/-! SUPPORT. What each update of the state does to each field, one lemma per field per update. The updates that choose
their field by an operand (`setReg`, `setPair`, `setPushPair`) keep the fields no operand of theirs names. -/

namespace Sys2Proof.Machine

variable (s : State)

/-! ### advance -/

@[simp] theorem State.advance_a (n : Nat) : (s.advance n).a = s.a := rfl
@[simp] theorem State.advance_b (n : Nat) : (s.advance n).b = s.b := rfl
@[simp] theorem State.advance_c (n : Nat) : (s.advance n).c = s.c := rfl
@[simp] theorem State.advance_d (n : Nat) : (s.advance n).d = s.d := rfl
@[simp] theorem State.advance_e (n : Nat) : (s.advance n).e = s.e := rfl
@[simp] theorem State.advance_h (n : Nat) : (s.advance n).h = s.h := rfl
@[simp] theorem State.advance_l (n : Nat) : (s.advance n).l = s.l := rfl
@[simp] theorem State.advance_flags (n : Nat) : (s.advance n).flags = s.flags := rfl
@[simp] theorem State.advance_sp (n : Nat) : (s.advance n).sp = s.sp := rfl
@[simp] theorem State.advance_pc (n : Nat) : (s.advance n).pc = s.pc + BitVec.ofNat 16 n := rfl
@[simp] theorem State.advance_inte (n : Nat) : (s.advance n).inte = s.inte := rfl
@[simp] theorem State.advance_halted (n : Nat) : (s.advance n).halted = s.halted := rfl
@[simp] theorem State.advance_mem (n : Nat) : (s.advance n).mem = s.mem := rfl
@[simp] theorem State.advance_ioTab (n : Nat) : (s.advance n).ioTab = s.ioTab := rfl
@[simp] theorem State.advance_tCounter (n : Nat) : (s.advance n).tCounter = s.tCounter := rfl
@[simp] theorem State.advance_tReload (n : Nat) : (s.advance n).tReload = s.tReload := rfl
@[simp] theorem State.advance_tEnabled (n : Nat) : (s.advance n).tEnabled = s.tEnabled := rfl
@[simp] theorem State.advance_tPending (n : Nat) : (s.advance n).tPending = s.tPending := rfl
@[simp] theorem State.advance_cyclesTotal (n : Nat) : (s.advance n).cyclesTotal = s.cyclesTotal := rfl
@[simp] theorem State.advance_devState (n : Nat) : (s.advance n).devState = s.devState := rfl

/-! ### jumpTo -/

@[simp] theorem State.jumpTo_a (v : Word) : (s.jumpTo v).a = s.a := rfl
@[simp] theorem State.jumpTo_b (v : Word) : (s.jumpTo v).b = s.b := rfl
@[simp] theorem State.jumpTo_c (v : Word) : (s.jumpTo v).c = s.c := rfl
@[simp] theorem State.jumpTo_d (v : Word) : (s.jumpTo v).d = s.d := rfl
@[simp] theorem State.jumpTo_e (v : Word) : (s.jumpTo v).e = s.e := rfl
@[simp] theorem State.jumpTo_h (v : Word) : (s.jumpTo v).h = s.h := rfl
@[simp] theorem State.jumpTo_l (v : Word) : (s.jumpTo v).l = s.l := rfl
@[simp] theorem State.jumpTo_flags (v : Word) : (s.jumpTo v).flags = s.flags := rfl
@[simp] theorem State.jumpTo_sp (v : Word) : (s.jumpTo v).sp = s.sp := rfl
@[simp] theorem State.jumpTo_pc (v : Word) : (s.jumpTo v).pc = v := rfl
@[simp] theorem State.jumpTo_inte (v : Word) : (s.jumpTo v).inte = s.inte := rfl
@[simp] theorem State.jumpTo_halted (v : Word) : (s.jumpTo v).halted = s.halted := rfl
@[simp] theorem State.jumpTo_mem (v : Word) : (s.jumpTo v).mem = s.mem := rfl
@[simp] theorem State.jumpTo_ioTab (v : Word) : (s.jumpTo v).ioTab = s.ioTab := rfl
@[simp] theorem State.jumpTo_tCounter (v : Word) : (s.jumpTo v).tCounter = s.tCounter := rfl
@[simp] theorem State.jumpTo_tReload (v : Word) : (s.jumpTo v).tReload = s.tReload := rfl
@[simp] theorem State.jumpTo_tEnabled (v : Word) : (s.jumpTo v).tEnabled = s.tEnabled := rfl
@[simp] theorem State.jumpTo_tPending (v : Word) : (s.jumpTo v).tPending = s.tPending := rfl
@[simp] theorem State.jumpTo_cyclesTotal (v : Word) : (s.jumpTo v).cyclesTotal = s.cyclesTotal := rfl
@[simp] theorem State.jumpTo_devState (v : Word) : (s.jumpTo v).devState = s.devState := rfl

/-! ### memWrite -/

@[simp] theorem State.memWrite_a (x : Word) (v : Byte) : (s.memWrite x v).a = s.a := rfl
@[simp] theorem State.memWrite_b (x : Word) (v : Byte) : (s.memWrite x v).b = s.b := rfl
@[simp] theorem State.memWrite_c (x : Word) (v : Byte) : (s.memWrite x v).c = s.c := rfl
@[simp] theorem State.memWrite_d (x : Word) (v : Byte) : (s.memWrite x v).d = s.d := rfl
@[simp] theorem State.memWrite_e (x : Word) (v : Byte) : (s.memWrite x v).e = s.e := rfl
@[simp] theorem State.memWrite_h (x : Word) (v : Byte) : (s.memWrite x v).h = s.h := rfl
@[simp] theorem State.memWrite_l (x : Word) (v : Byte) : (s.memWrite x v).l = s.l := rfl
@[simp] theorem State.memWrite_flags (x : Word) (v : Byte) : (s.memWrite x v).flags = s.flags := rfl
@[simp] theorem State.memWrite_sp (x : Word) (v : Byte) : (s.memWrite x v).sp = s.sp := rfl
@[simp] theorem State.memWrite_pc (x : Word) (v : Byte) : (s.memWrite x v).pc = s.pc := rfl
@[simp] theorem State.memWrite_inte (x : Word) (v : Byte) : (s.memWrite x v).inte = s.inte := rfl
@[simp] theorem State.memWrite_halted (x : Word) (v : Byte) : (s.memWrite x v).halted = s.halted := rfl
@[simp] theorem State.memWrite_mem (x : Word) (v : Byte) : (s.memWrite x v).mem = Sparse.set Memory.unlisted s.mem x.toNat v := rfl
@[simp] theorem State.memWrite_ioTab (x : Word) (v : Byte) : (s.memWrite x v).ioTab = s.ioTab := rfl
@[simp] theorem State.memWrite_tCounter (x : Word) (v : Byte) : (s.memWrite x v).tCounter = s.tCounter := rfl
@[simp] theorem State.memWrite_tReload (x : Word) (v : Byte) : (s.memWrite x v).tReload = s.tReload := rfl
@[simp] theorem State.memWrite_tEnabled (x : Word) (v : Byte) : (s.memWrite x v).tEnabled = s.tEnabled := rfl
@[simp] theorem State.memWrite_tPending (x : Word) (v : Byte) : (s.memWrite x v).tPending = s.tPending := rfl
@[simp] theorem State.memWrite_cyclesTotal (x : Word) (v : Byte) : (s.memWrite x v).cyclesTotal = s.cyclesTotal := rfl
@[simp] theorem State.memWrite_devState (x : Word) (v : Byte) : (s.memWrite x v).devState = s.devState := rfl

/-! ### memWrite16 -/

@[simp] theorem State.memWrite16_a (x v : Word) : (s.memWrite16 x v).a = s.a := rfl
@[simp] theorem State.memWrite16_b (x v : Word) : (s.memWrite16 x v).b = s.b := rfl
@[simp] theorem State.memWrite16_c (x v : Word) : (s.memWrite16 x v).c = s.c := rfl
@[simp] theorem State.memWrite16_d (x v : Word) : (s.memWrite16 x v).d = s.d := rfl
@[simp] theorem State.memWrite16_e (x v : Word) : (s.memWrite16 x v).e = s.e := rfl
@[simp] theorem State.memWrite16_h (x v : Word) : (s.memWrite16 x v).h = s.h := rfl
@[simp] theorem State.memWrite16_l (x v : Word) : (s.memWrite16 x v).l = s.l := rfl
@[simp] theorem State.memWrite16_flags (x v : Word) : (s.memWrite16 x v).flags = s.flags := rfl
@[simp] theorem State.memWrite16_sp (x v : Word) : (s.memWrite16 x v).sp = s.sp := rfl
@[simp] theorem State.memWrite16_pc (x v : Word) : (s.memWrite16 x v).pc = s.pc := rfl
@[simp] theorem State.memWrite16_inte (x v : Word) : (s.memWrite16 x v).inte = s.inte := rfl
@[simp] theorem State.memWrite16_halted (x v : Word) : (s.memWrite16 x v).halted = s.halted := rfl
@[simp] theorem State.memWrite16_ioTab (x v : Word) : (s.memWrite16 x v).ioTab = s.ioTab := rfl
@[simp] theorem State.memWrite16_tCounter (x v : Word) : (s.memWrite16 x v).tCounter = s.tCounter := rfl
@[simp] theorem State.memWrite16_tReload (x v : Word) : (s.memWrite16 x v).tReload = s.tReload := rfl
@[simp] theorem State.memWrite16_tEnabled (x v : Word) : (s.memWrite16 x v).tEnabled = s.tEnabled := rfl
@[simp] theorem State.memWrite16_tPending (x v : Word) : (s.memWrite16 x v).tPending = s.tPending := rfl
@[simp] theorem State.memWrite16_cyclesTotal (x v : Word) : (s.memWrite16 x v).cyclesTotal = s.cyclesTotal := rfl
@[simp] theorem State.memWrite16_devState (x v : Word) : (s.memWrite16 x v).devState = s.devState := rfl

/-! ### push16 -/

@[simp] theorem State.push16_a (v : Word) : (s.push16 v).a = s.a := rfl
@[simp] theorem State.push16_b (v : Word) : (s.push16 v).b = s.b := rfl
@[simp] theorem State.push16_c (v : Word) : (s.push16 v).c = s.c := rfl
@[simp] theorem State.push16_d (v : Word) : (s.push16 v).d = s.d := rfl
@[simp] theorem State.push16_e (v : Word) : (s.push16 v).e = s.e := rfl
@[simp] theorem State.push16_h (v : Word) : (s.push16 v).h = s.h := rfl
@[simp] theorem State.push16_l (v : Word) : (s.push16 v).l = s.l := rfl
@[simp] theorem State.push16_flags (v : Word) : (s.push16 v).flags = s.flags := rfl
@[simp] theorem State.push16_sp (v : Word) : (s.push16 v).sp = s.sp - 2 := rfl
@[simp] theorem State.push16_pc (v : Word) : (s.push16 v).pc = s.pc := rfl
@[simp] theorem State.push16_inte (v : Word) : (s.push16 v).inte = s.inte := rfl
@[simp] theorem State.push16_halted (v : Word) : (s.push16 v).halted = s.halted := rfl
@[simp] theorem State.push16_ioTab (v : Word) : (s.push16 v).ioTab = s.ioTab := rfl
@[simp] theorem State.push16_tCounter (v : Word) : (s.push16 v).tCounter = s.tCounter := rfl
@[simp] theorem State.push16_tReload (v : Word) : (s.push16 v).tReload = s.tReload := rfl
@[simp] theorem State.push16_tEnabled (v : Word) : (s.push16 v).tEnabled = s.tEnabled := rfl
@[simp] theorem State.push16_tPending (v : Word) : (s.push16 v).tPending = s.tPending := rfl
@[simp] theorem State.push16_cyclesTotal (v : Word) : (s.push16 v).cyclesTotal = s.cyclesTotal := rfl
@[simp] theorem State.push16_devState (v : Word) : (s.push16 v).devState = s.devState := rfl

/-! ### popped -/

@[simp] theorem State.popped_a : (s.popped).a = s.a := rfl
@[simp] theorem State.popped_b : (s.popped).b = s.b := rfl
@[simp] theorem State.popped_c : (s.popped).c = s.c := rfl
@[simp] theorem State.popped_d : (s.popped).d = s.d := rfl
@[simp] theorem State.popped_e : (s.popped).e = s.e := rfl
@[simp] theorem State.popped_h : (s.popped).h = s.h := rfl
@[simp] theorem State.popped_l : (s.popped).l = s.l := rfl
@[simp] theorem State.popped_flags : (s.popped).flags = s.flags := rfl
@[simp] theorem State.popped_sp : (s.popped).sp = s.sp + 2 := rfl
@[simp] theorem State.popped_pc : (s.popped).pc = s.pc := rfl
@[simp] theorem State.popped_inte : (s.popped).inte = s.inte := rfl
@[simp] theorem State.popped_halted : (s.popped).halted = s.halted := rfl
@[simp] theorem State.popped_mem : (s.popped).mem = s.mem := rfl
@[simp] theorem State.popped_ioTab : (s.popped).ioTab = s.ioTab := rfl
@[simp] theorem State.popped_tCounter : (s.popped).tCounter = s.tCounter := rfl
@[simp] theorem State.popped_tReload : (s.popped).tReload = s.tReload := rfl
@[simp] theorem State.popped_tEnabled : (s.popped).tEnabled = s.tEnabled := rfl
@[simp] theorem State.popped_tPending : (s.popped).tPending = s.tPending := rfl
@[simp] theorem State.popped_cyclesTotal : (s.popped).cyclesTotal = s.cyclesTotal := rfl
@[simp] theorem State.popped_devState : (s.popped).devState = s.devState := rfl

/-! ### callTo -/

@[simp] theorem State.callTo_a (v : Word) : (s.callTo v).a = s.a := rfl
@[simp] theorem State.callTo_b (v : Word) : (s.callTo v).b = s.b := rfl
@[simp] theorem State.callTo_c (v : Word) : (s.callTo v).c = s.c := rfl
@[simp] theorem State.callTo_d (v : Word) : (s.callTo v).d = s.d := rfl
@[simp] theorem State.callTo_e (v : Word) : (s.callTo v).e = s.e := rfl
@[simp] theorem State.callTo_h (v : Word) : (s.callTo v).h = s.h := rfl
@[simp] theorem State.callTo_l (v : Word) : (s.callTo v).l = s.l := rfl
@[simp] theorem State.callTo_flags (v : Word) : (s.callTo v).flags = s.flags := rfl
@[simp] theorem State.callTo_sp (v : Word) : (s.callTo v).sp = s.sp - 2 := rfl
@[simp] theorem State.callTo_pc (v : Word) : (s.callTo v).pc = v := rfl
@[simp] theorem State.callTo_inte (v : Word) : (s.callTo v).inte = s.inte := rfl
@[simp] theorem State.callTo_halted (v : Word) : (s.callTo v).halted = s.halted := rfl
@[simp] theorem State.callTo_ioTab (v : Word) : (s.callTo v).ioTab = s.ioTab := rfl
@[simp] theorem State.callTo_tCounter (v : Word) : (s.callTo v).tCounter = s.tCounter := rfl
@[simp] theorem State.callTo_tReload (v : Word) : (s.callTo v).tReload = s.tReload := rfl
@[simp] theorem State.callTo_tEnabled (v : Word) : (s.callTo v).tEnabled = s.tEnabled := rfl
@[simp] theorem State.callTo_tPending (v : Word) : (s.callTo v).tPending = s.tPending := rfl
@[simp] theorem State.callTo_cyclesTotal (v : Word) : (s.callTo v).cyclesTotal = s.cyclesTotal := rfl
@[simp] theorem State.callTo_devState (v : Word) : (s.callTo v).devState = s.devState := rfl

/-! ### returnFromCall -/

@[simp] theorem State.returnFromCall_a : (s.returnFromCall).a = s.a := rfl
@[simp] theorem State.returnFromCall_b : (s.returnFromCall).b = s.b := rfl
@[simp] theorem State.returnFromCall_c : (s.returnFromCall).c = s.c := rfl
@[simp] theorem State.returnFromCall_d : (s.returnFromCall).d = s.d := rfl
@[simp] theorem State.returnFromCall_e : (s.returnFromCall).e = s.e := rfl
@[simp] theorem State.returnFromCall_h : (s.returnFromCall).h = s.h := rfl
@[simp] theorem State.returnFromCall_l : (s.returnFromCall).l = s.l := rfl
@[simp] theorem State.returnFromCall_flags : (s.returnFromCall).flags = s.flags := rfl
@[simp] theorem State.returnFromCall_sp : (s.returnFromCall).sp = s.sp + 2 := rfl
@[simp] theorem State.returnFromCall_pc : (s.returnFromCall).pc = s.popValue := rfl
@[simp] theorem State.returnFromCall_inte : (s.returnFromCall).inte = s.inte := rfl
@[simp] theorem State.returnFromCall_halted : (s.returnFromCall).halted = s.halted := rfl
@[simp] theorem State.returnFromCall_mem : (s.returnFromCall).mem = s.mem := rfl
@[simp] theorem State.returnFromCall_ioTab : (s.returnFromCall).ioTab = s.ioTab := rfl
@[simp] theorem State.returnFromCall_tCounter : (s.returnFromCall).tCounter = s.tCounter := rfl
@[simp] theorem State.returnFromCall_tReload : (s.returnFromCall).tReload = s.tReload := rfl
@[simp] theorem State.returnFromCall_tEnabled : (s.returnFromCall).tEnabled = s.tEnabled := rfl
@[simp] theorem State.returnFromCall_tPending : (s.returnFromCall).tPending = s.tPending := rfl
@[simp] theorem State.returnFromCall_cyclesTotal : (s.returnFromCall).cyclesTotal = s.cyclesTotal := rfl
@[simp] theorem State.returnFromCall_devState : (s.returnFromCall).devState = s.devState := rfl

/-! ### deliverInterrupt -/

@[simp] theorem State.deliverInterrupt_a : (s.deliverInterrupt).a = s.a := rfl
@[simp] theorem State.deliverInterrupt_b : (s.deliverInterrupt).b = s.b := rfl
@[simp] theorem State.deliverInterrupt_c : (s.deliverInterrupt).c = s.c := rfl
@[simp] theorem State.deliverInterrupt_d : (s.deliverInterrupt).d = s.d := rfl
@[simp] theorem State.deliverInterrupt_e : (s.deliverInterrupt).e = s.e := rfl
@[simp] theorem State.deliverInterrupt_h : (s.deliverInterrupt).h = s.h := rfl
@[simp] theorem State.deliverInterrupt_l : (s.deliverInterrupt).l = s.l := rfl
@[simp] theorem State.deliverInterrupt_flags : (s.deliverInterrupt).flags = s.flags := rfl
@[simp] theorem State.deliverInterrupt_sp : (s.deliverInterrupt).sp = s.sp - 2 := rfl
@[simp] theorem State.deliverInterrupt_pc : (s.deliverInterrupt).pc = interruptVector := rfl
@[simp] theorem State.deliverInterrupt_inte : (s.deliverInterrupt).inte = false := rfl
@[simp] theorem State.deliverInterrupt_halted : (s.deliverInterrupt).halted = s.halted := rfl
@[simp] theorem State.deliverInterrupt_mem : (s.deliverInterrupt).mem = (s.push16 s.pc).mem := rfl
@[simp] theorem State.deliverInterrupt_ioTab : (s.deliverInterrupt).ioTab = s.ioTab := rfl
@[simp] theorem State.deliverInterrupt_tCounter : (s.deliverInterrupt).tCounter = s.tCounter := rfl
@[simp] theorem State.deliverInterrupt_tReload : (s.deliverInterrupt).tReload = s.tReload := rfl
@[simp] theorem State.deliverInterrupt_tEnabled : (s.deliverInterrupt).tEnabled = s.tEnabled := rfl
@[simp] theorem State.deliverInterrupt_tPending : (s.deliverInterrupt).tPending = false := rfl
@[simp] theorem State.deliverInterrupt_cyclesTotal : (s.deliverInterrupt).cyclesTotal = s.cyclesTotal := rfl
@[simp] theorem State.deliverInterrupt_devState : (s.deliverInterrupt).devState = s.devState := rfl

/-! ### addToA, subFromA: as setAlu -/

@[simp] theorem State.addToA_eq (v : Byte) (cin : Bool) : s.addToA v cin = s.setAlu (add8 s.a v cin) := rfl
@[simp] theorem State.subFromA_eq (v : Byte) (bin : Bool) : s.subFromA v bin = s.setAlu (sub8 s.a v bin) := rfl

/-! ### setAlu -/

@[simp] theorem State.setAlu_a (x : AluResult) : (s.setAlu x).a = x.r := rfl
@[simp] theorem State.setAlu_b (x : AluResult) : (s.setAlu x).b = s.b := rfl
@[simp] theorem State.setAlu_c (x : AluResult) : (s.setAlu x).c = s.c := rfl
@[simp] theorem State.setAlu_d (x : AluResult) : (s.setAlu x).d = s.d := rfl
@[simp] theorem State.setAlu_e (x : AluResult) : (s.setAlu x).e = s.e := rfl
@[simp] theorem State.setAlu_h (x : AluResult) : (s.setAlu x).h = s.h := rfl
@[simp] theorem State.setAlu_l (x : AluResult) : (s.setAlu x).l = s.l := rfl
@[simp] theorem State.setAlu_flags (x : AluResult) : (s.setAlu x).flags = flagsArith x.r x.cy x.ac := rfl
@[simp] theorem State.setAlu_sp (x : AluResult) : (s.setAlu x).sp = s.sp := rfl
@[simp] theorem State.setAlu_pc (x : AluResult) : (s.setAlu x).pc = s.pc := rfl
@[simp] theorem State.setAlu_inte (x : AluResult) : (s.setAlu x).inte = s.inte := rfl
@[simp] theorem State.setAlu_halted (x : AluResult) : (s.setAlu x).halted = s.halted := rfl
@[simp] theorem State.setAlu_mem (x : AluResult) : (s.setAlu x).mem = s.mem := rfl
@[simp] theorem State.setAlu_ioTab (x : AluResult) : (s.setAlu x).ioTab = s.ioTab := rfl
@[simp] theorem State.setAlu_tCounter (x : AluResult) : (s.setAlu x).tCounter = s.tCounter := rfl
@[simp] theorem State.setAlu_tReload (x : AluResult) : (s.setAlu x).tReload = s.tReload := rfl
@[simp] theorem State.setAlu_tEnabled (x : AluResult) : (s.setAlu x).tEnabled = s.tEnabled := rfl
@[simp] theorem State.setAlu_tPending (x : AluResult) : (s.setAlu x).tPending = s.tPending := rfl
@[simp] theorem State.setAlu_cyclesTotal (x : AluResult) : (s.setAlu x).cyclesTotal = s.cyclesTotal := rfl
@[simp] theorem State.setAlu_devState (x : AluResult) : (s.setAlu x).devState = s.devState := rfl

/-! ### compareA -/

@[simp] theorem State.compareA_a (v : Byte) : (s.compareA v).a = s.a := rfl
@[simp] theorem State.compareA_b (v : Byte) : (s.compareA v).b = s.b := rfl
@[simp] theorem State.compareA_c (v : Byte) : (s.compareA v).c = s.c := rfl
@[simp] theorem State.compareA_d (v : Byte) : (s.compareA v).d = s.d := rfl
@[simp] theorem State.compareA_e (v : Byte) : (s.compareA v).e = s.e := rfl
@[simp] theorem State.compareA_h (v : Byte) : (s.compareA v).h = s.h := rfl
@[simp] theorem State.compareA_l (v : Byte) : (s.compareA v).l = s.l := rfl
@[simp] theorem State.compareA_flags (v : Byte) : (s.compareA v).flags = flagsArith (sub8 s.a v false).r (sub8 s.a v false).cy (sub8 s.a v false).ac := rfl
@[simp] theorem State.compareA_sp (v : Byte) : (s.compareA v).sp = s.sp := rfl
@[simp] theorem State.compareA_pc (v : Byte) : (s.compareA v).pc = s.pc := rfl
@[simp] theorem State.compareA_inte (v : Byte) : (s.compareA v).inte = s.inte := rfl
@[simp] theorem State.compareA_halted (v : Byte) : (s.compareA v).halted = s.halted := rfl
@[simp] theorem State.compareA_mem (v : Byte) : (s.compareA v).mem = s.mem := rfl
@[simp] theorem State.compareA_ioTab (v : Byte) : (s.compareA v).ioTab = s.ioTab := rfl
@[simp] theorem State.compareA_tCounter (v : Byte) : (s.compareA v).tCounter = s.tCounter := rfl
@[simp] theorem State.compareA_tReload (v : Byte) : (s.compareA v).tReload = s.tReload := rfl
@[simp] theorem State.compareA_tEnabled (v : Byte) : (s.compareA v).tEnabled = s.tEnabled := rfl
@[simp] theorem State.compareA_tPending (v : Byte) : (s.compareA v).tPending = s.tPending := rfl
@[simp] theorem State.compareA_cyclesTotal (v : Byte) : (s.compareA v).cyclesTotal = s.cyclesTotal := rfl
@[simp] theorem State.compareA_devState (v : Byte) : (s.compareA v).devState = s.devState := rfl

/-! ### setLogic -/

@[simp] theorem State.setLogic_a (v : Byte) : (s.setLogic v).a = v := rfl
@[simp] theorem State.setLogic_b (v : Byte) : (s.setLogic v).b = s.b := rfl
@[simp] theorem State.setLogic_c (v : Byte) : (s.setLogic v).c = s.c := rfl
@[simp] theorem State.setLogic_d (v : Byte) : (s.setLogic v).d = s.d := rfl
@[simp] theorem State.setLogic_e (v : Byte) : (s.setLogic v).e = s.e := rfl
@[simp] theorem State.setLogic_h (v : Byte) : (s.setLogic v).h = s.h := rfl
@[simp] theorem State.setLogic_l (v : Byte) : (s.setLogic v).l = s.l := rfl
@[simp] theorem State.setLogic_flags (v : Byte) : (s.setLogic v).flags = flagsLogic v := rfl
@[simp] theorem State.setLogic_sp (v : Byte) : (s.setLogic v).sp = s.sp := rfl
@[simp] theorem State.setLogic_pc (v : Byte) : (s.setLogic v).pc = s.pc := rfl
@[simp] theorem State.setLogic_inte (v : Byte) : (s.setLogic v).inte = s.inte := rfl
@[simp] theorem State.setLogic_halted (v : Byte) : (s.setLogic v).halted = s.halted := rfl
@[simp] theorem State.setLogic_mem (v : Byte) : (s.setLogic v).mem = s.mem := rfl
@[simp] theorem State.setLogic_ioTab (v : Byte) : (s.setLogic v).ioTab = s.ioTab := rfl
@[simp] theorem State.setLogic_tCounter (v : Byte) : (s.setLogic v).tCounter = s.tCounter := rfl
@[simp] theorem State.setLogic_tReload (v : Byte) : (s.setLogic v).tReload = s.tReload := rfl
@[simp] theorem State.setLogic_tEnabled (v : Byte) : (s.setLogic v).tEnabled = s.tEnabled := rfl
@[simp] theorem State.setLogic_tPending (v : Byte) : (s.setLogic v).tPending = s.tPending := rfl
@[simp] theorem State.setLogic_cyclesTotal (v : Byte) : (s.setLogic v).cyclesTotal = s.cyclesTotal := rfl
@[simp] theorem State.setLogic_devState (v : Byte) : (s.setLogic v).devState = s.devState := rfl

/-! ### setCarry -/

@[simp] theorem State.setCarry_a (v : Bool) : (s.setCarry v).a = s.a := rfl
@[simp] theorem State.setCarry_b (v : Bool) : (s.setCarry v).b = s.b := rfl
@[simp] theorem State.setCarry_c (v : Bool) : (s.setCarry v).c = s.c := rfl
@[simp] theorem State.setCarry_d (v : Bool) : (s.setCarry v).d = s.d := rfl
@[simp] theorem State.setCarry_e (v : Bool) : (s.setCarry v).e = s.e := rfl
@[simp] theorem State.setCarry_h (v : Bool) : (s.setCarry v).h = s.h := rfl
@[simp] theorem State.setCarry_l (v : Bool) : (s.setCarry v).l = s.l := rfl
@[simp] theorem State.setCarry_flags (v : Bool) : (s.setCarry v).flags = setFlagC s.flags v := rfl
@[simp] theorem State.setCarry_sp (v : Bool) : (s.setCarry v).sp = s.sp := rfl
@[simp] theorem State.setCarry_pc (v : Bool) : (s.setCarry v).pc = s.pc := rfl
@[simp] theorem State.setCarry_inte (v : Bool) : (s.setCarry v).inte = s.inte := rfl
@[simp] theorem State.setCarry_halted (v : Bool) : (s.setCarry v).halted = s.halted := rfl
@[simp] theorem State.setCarry_mem (v : Bool) : (s.setCarry v).mem = s.mem := rfl
@[simp] theorem State.setCarry_ioTab (v : Bool) : (s.setCarry v).ioTab = s.ioTab := rfl
@[simp] theorem State.setCarry_tCounter (v : Bool) : (s.setCarry v).tCounter = s.tCounter := rfl
@[simp] theorem State.setCarry_tReload (v : Bool) : (s.setCarry v).tReload = s.tReload := rfl
@[simp] theorem State.setCarry_tEnabled (v : Bool) : (s.setCarry v).tEnabled = s.tEnabled := rfl
@[simp] theorem State.setCarry_tPending (v : Bool) : (s.setCarry v).tPending = s.tPending := rfl
@[simp] theorem State.setCarry_cyclesTotal (v : Bool) : (s.setCarry v).cyclesTotal = s.cyclesTotal := rfl
@[simp] theorem State.setCarry_devState (v : Bool) : (s.setCarry v).devState = s.devState := rfl

/-! ### setFlagsKeepCarry -/

@[simp] theorem State.setFlagsKeepCarry_a (v : Byte) (ac : Bool) : (s.setFlagsKeepCarry v ac).a = s.a := rfl
@[simp] theorem State.setFlagsKeepCarry_b (v : Byte) (ac : Bool) : (s.setFlagsKeepCarry v ac).b = s.b := rfl
@[simp] theorem State.setFlagsKeepCarry_c (v : Byte) (ac : Bool) : (s.setFlagsKeepCarry v ac).c = s.c := rfl
@[simp] theorem State.setFlagsKeepCarry_d (v : Byte) (ac : Bool) : (s.setFlagsKeepCarry v ac).d = s.d := rfl
@[simp] theorem State.setFlagsKeepCarry_e (v : Byte) (ac : Bool) : (s.setFlagsKeepCarry v ac).e = s.e := rfl
@[simp] theorem State.setFlagsKeepCarry_h (v : Byte) (ac : Bool) : (s.setFlagsKeepCarry v ac).h = s.h := rfl
@[simp] theorem State.setFlagsKeepCarry_l (v : Byte) (ac : Bool) : (s.setFlagsKeepCarry v ac).l = s.l := rfl
@[simp] theorem State.setFlagsKeepCarry_flags (v : Byte) (ac : Bool) : (s.setFlagsKeepCarry v ac).flags = setFlagC (flagsArith v false ac) (flagC s.flags) := rfl
@[simp] theorem State.setFlagsKeepCarry_sp (v : Byte) (ac : Bool) : (s.setFlagsKeepCarry v ac).sp = s.sp := rfl
@[simp] theorem State.setFlagsKeepCarry_pc (v : Byte) (ac : Bool) : (s.setFlagsKeepCarry v ac).pc = s.pc := rfl
@[simp] theorem State.setFlagsKeepCarry_inte (v : Byte) (ac : Bool) : (s.setFlagsKeepCarry v ac).inte = s.inte := rfl
@[simp] theorem State.setFlagsKeepCarry_halted (v : Byte) (ac : Bool) : (s.setFlagsKeepCarry v ac).halted = s.halted := rfl
@[simp] theorem State.setFlagsKeepCarry_mem (v : Byte) (ac : Bool) : (s.setFlagsKeepCarry v ac).mem = s.mem := rfl
@[simp] theorem State.setFlagsKeepCarry_ioTab (v : Byte) (ac : Bool) : (s.setFlagsKeepCarry v ac).ioTab = s.ioTab := rfl
@[simp] theorem State.setFlagsKeepCarry_tCounter (v : Byte) (ac : Bool) : (s.setFlagsKeepCarry v ac).tCounter = s.tCounter := rfl
@[simp] theorem State.setFlagsKeepCarry_tReload (v : Byte) (ac : Bool) : (s.setFlagsKeepCarry v ac).tReload = s.tReload := rfl
@[simp] theorem State.setFlagsKeepCarry_tEnabled (v : Byte) (ac : Bool) : (s.setFlagsKeepCarry v ac).tEnabled = s.tEnabled := rfl
@[simp] theorem State.setFlagsKeepCarry_tPending (v : Byte) (ac : Bool) : (s.setFlagsKeepCarry v ac).tPending = s.tPending := rfl
@[simp] theorem State.setFlagsKeepCarry_cyclesTotal (v : Byte) (ac : Bool) : (s.setFlagsKeepCarry v ac).cyclesTotal = s.cyclesTotal := rfl
@[simp] theorem State.setFlagsKeepCarry_devState (v : Byte) (ac : Bool) : (s.setFlagsKeepCarry v ac).devState = s.devState := rfl

/-! ### setRotated -/

@[simp] theorem State.setRotated_a (v : Byte) (cy : Bool) : (s.setRotated v cy).a = v := rfl
@[simp] theorem State.setRotated_b (v : Byte) (cy : Bool) : (s.setRotated v cy).b = s.b := rfl
@[simp] theorem State.setRotated_c (v : Byte) (cy : Bool) : (s.setRotated v cy).c = s.c := rfl
@[simp] theorem State.setRotated_d (v : Byte) (cy : Bool) : (s.setRotated v cy).d = s.d := rfl
@[simp] theorem State.setRotated_e (v : Byte) (cy : Bool) : (s.setRotated v cy).e = s.e := rfl
@[simp] theorem State.setRotated_h (v : Byte) (cy : Bool) : (s.setRotated v cy).h = s.h := rfl
@[simp] theorem State.setRotated_l (v : Byte) (cy : Bool) : (s.setRotated v cy).l = s.l := rfl
@[simp] theorem State.setRotated_flags (v : Byte) (cy : Bool) : (s.setRotated v cy).flags = setFlagC s.flags cy := rfl
@[simp] theorem State.setRotated_sp (v : Byte) (cy : Bool) : (s.setRotated v cy).sp = s.sp := rfl
@[simp] theorem State.setRotated_pc (v : Byte) (cy : Bool) : (s.setRotated v cy).pc = s.pc := rfl
@[simp] theorem State.setRotated_inte (v : Byte) (cy : Bool) : (s.setRotated v cy).inte = s.inte := rfl
@[simp] theorem State.setRotated_halted (v : Byte) (cy : Bool) : (s.setRotated v cy).halted = s.halted := rfl
@[simp] theorem State.setRotated_mem (v : Byte) (cy : Bool) : (s.setRotated v cy).mem = s.mem := rfl
@[simp] theorem State.setRotated_ioTab (v : Byte) (cy : Bool) : (s.setRotated v cy).ioTab = s.ioTab := rfl
@[simp] theorem State.setRotated_tCounter (v : Byte) (cy : Bool) : (s.setRotated v cy).tCounter = s.tCounter := rfl
@[simp] theorem State.setRotated_tReload (v : Byte) (cy : Bool) : (s.setRotated v cy).tReload = s.tReload := rfl
@[simp] theorem State.setRotated_tEnabled (v : Byte) (cy : Bool) : (s.setRotated v cy).tEnabled = s.tEnabled := rfl
@[simp] theorem State.setRotated_tPending (v : Byte) (cy : Bool) : (s.setRotated v cy).tPending = s.tPending := rfl
@[simp] theorem State.setRotated_cyclesTotal (v : Byte) (cy : Bool) : (s.setRotated v cy).cyclesTotal = s.cyclesTotal := rfl
@[simp] theorem State.setRotated_devState (v : Byte) (cy : Bool) : (s.setRotated v cy).devState = s.devState := rfl

/-! ### setPsw -/

@[simp] theorem State.setPsw_a (v : Word) : (s.setPsw v).a = hiByte v := rfl
@[simp] theorem State.setPsw_b (v : Word) : (s.setPsw v).b = s.b := rfl
@[simp] theorem State.setPsw_c (v : Word) : (s.setPsw v).c = s.c := rfl
@[simp] theorem State.setPsw_d (v : Word) : (s.setPsw v).d = s.d := rfl
@[simp] theorem State.setPsw_e (v : Word) : (s.setPsw v).e = s.e := rfl
@[simp] theorem State.setPsw_h (v : Word) : (s.setPsw v).h = s.h := rfl
@[simp] theorem State.setPsw_l (v : Word) : (s.setPsw v).l = s.l := rfl
@[simp] theorem State.setPsw_flags (v : Word) : (s.setPsw v).flags = norm (loByte v) := rfl
@[simp] theorem State.setPsw_sp (v : Word) : (s.setPsw v).sp = s.sp := rfl
@[simp] theorem State.setPsw_pc (v : Word) : (s.setPsw v).pc = s.pc := rfl
@[simp] theorem State.setPsw_inte (v : Word) : (s.setPsw v).inte = s.inte := rfl
@[simp] theorem State.setPsw_halted (v : Word) : (s.setPsw v).halted = s.halted := rfl
@[simp] theorem State.setPsw_mem (v : Word) : (s.setPsw v).mem = s.mem := rfl
@[simp] theorem State.setPsw_ioTab (v : Word) : (s.setPsw v).ioTab = s.ioTab := rfl
@[simp] theorem State.setPsw_tCounter (v : Word) : (s.setPsw v).tCounter = s.tCounter := rfl
@[simp] theorem State.setPsw_tReload (v : Word) : (s.setPsw v).tReload = s.tReload := rfl
@[simp] theorem State.setPsw_tEnabled (v : Word) : (s.setPsw v).tEnabled = s.tEnabled := rfl
@[simp] theorem State.setPsw_tPending (v : Word) : (s.setPsw v).tPending = s.tPending := rfl
@[simp] theorem State.setPsw_cyclesTotal (v : Word) : (s.setPsw v).cyclesTotal = s.cyclesTotal := rfl
@[simp] theorem State.setPsw_devState (v : Word) : (s.setPsw v).devState = s.devState := rfl

/-! ### setDevice -/

@[simp] theorem State.setDevice_a (d : Config.DeviceId) (v : Config.DevState) : (s.setDevice d v).a = s.a := rfl
@[simp] theorem State.setDevice_b (d : Config.DeviceId) (v : Config.DevState) : (s.setDevice d v).b = s.b := rfl
@[simp] theorem State.setDevice_c (d : Config.DeviceId) (v : Config.DevState) : (s.setDevice d v).c = s.c := rfl
@[simp] theorem State.setDevice_d (d : Config.DeviceId) (v : Config.DevState) : (s.setDevice d v).d = s.d := rfl
@[simp] theorem State.setDevice_e (d : Config.DeviceId) (v : Config.DevState) : (s.setDevice d v).e = s.e := rfl
@[simp] theorem State.setDevice_h (d : Config.DeviceId) (v : Config.DevState) : (s.setDevice d v).h = s.h := rfl
@[simp] theorem State.setDevice_l (d : Config.DeviceId) (v : Config.DevState) : (s.setDevice d v).l = s.l := rfl
@[simp] theorem State.setDevice_flags (d : Config.DeviceId) (v : Config.DevState) : (s.setDevice d v).flags = s.flags := rfl
@[simp] theorem State.setDevice_sp (d : Config.DeviceId) (v : Config.DevState) : (s.setDevice d v).sp = s.sp := rfl
@[simp] theorem State.setDevice_pc (d : Config.DeviceId) (v : Config.DevState) : (s.setDevice d v).pc = s.pc := rfl
@[simp] theorem State.setDevice_inte (d : Config.DeviceId) (v : Config.DevState) : (s.setDevice d v).inte = s.inte := rfl
@[simp] theorem State.setDevice_halted (d : Config.DeviceId) (v : Config.DevState) : (s.setDevice d v).halted = s.halted := rfl
@[simp] theorem State.setDevice_mem (d : Config.DeviceId) (v : Config.DevState) : (s.setDevice d v).mem = s.mem := rfl
@[simp] theorem State.setDevice_ioTab (d : Config.DeviceId) (v : Config.DevState) : (s.setDevice d v).ioTab = s.ioTab := rfl
@[simp] theorem State.setDevice_tCounter (d : Config.DeviceId) (v : Config.DevState) : (s.setDevice d v).tCounter = s.tCounter := rfl
@[simp] theorem State.setDevice_tReload (d : Config.DeviceId) (v : Config.DevState) : (s.setDevice d v).tReload = s.tReload := rfl
@[simp] theorem State.setDevice_tEnabled (d : Config.DeviceId) (v : Config.DevState) : (s.setDevice d v).tEnabled = s.tEnabled := rfl
@[simp] theorem State.setDevice_tPending (d : Config.DeviceId) (v : Config.DevState) : (s.setDevice d v).tPending = s.tPending := rfl
@[simp] theorem State.setDevice_cyclesTotal (d : Config.DeviceId) (v : Config.DevState) : (s.setDevice d v).cyclesTotal = s.cyclesTotal := rfl
@[simp] theorem State.setDevice_devState (d : Config.DeviceId) (v : Config.DevState) : (s.setDevice d v).devState = Sparse.set DeviceTable.initial s.devState d v := rfl

/-! ### timerWriteLo -/

@[simp] theorem State.timerWriteLo_a (v : Byte) : (s.timerWriteLo v).a = s.a := rfl
@[simp] theorem State.timerWriteLo_b (v : Byte) : (s.timerWriteLo v).b = s.b := rfl
@[simp] theorem State.timerWriteLo_c (v : Byte) : (s.timerWriteLo v).c = s.c := rfl
@[simp] theorem State.timerWriteLo_d (v : Byte) : (s.timerWriteLo v).d = s.d := rfl
@[simp] theorem State.timerWriteLo_e (v : Byte) : (s.timerWriteLo v).e = s.e := rfl
@[simp] theorem State.timerWriteLo_h (v : Byte) : (s.timerWriteLo v).h = s.h := rfl
@[simp] theorem State.timerWriteLo_l (v : Byte) : (s.timerWriteLo v).l = s.l := rfl
@[simp] theorem State.timerWriteLo_flags (v : Byte) : (s.timerWriteLo v).flags = s.flags := rfl
@[simp] theorem State.timerWriteLo_sp (v : Byte) : (s.timerWriteLo v).sp = s.sp := rfl
@[simp] theorem State.timerWriteLo_pc (v : Byte) : (s.timerWriteLo v).pc = s.pc := rfl
@[simp] theorem State.timerWriteLo_inte (v : Byte) : (s.timerWriteLo v).inte = s.inte := rfl
@[simp] theorem State.timerWriteLo_halted (v : Byte) : (s.timerWriteLo v).halted = s.halted := rfl
@[simp] theorem State.timerWriteLo_mem (v : Byte) : (s.timerWriteLo v).mem = s.mem := rfl
@[simp] theorem State.timerWriteLo_ioTab (v : Byte) : (s.timerWriteLo v).ioTab = s.ioTab := rfl
@[simp] theorem State.timerWriteLo_tCounter (v : Byte) : (s.timerWriteLo v).tCounter = s.tCounter := rfl
@[simp] theorem State.timerWriteLo_tReload (v : Byte) : (s.timerWriteLo v).tReload = mkWord (hiByte s.tReload) v := rfl
@[simp] theorem State.timerWriteLo_tEnabled (v : Byte) : (s.timerWriteLo v).tEnabled = s.tEnabled := rfl
@[simp] theorem State.timerWriteLo_tPending (v : Byte) : (s.timerWriteLo v).tPending = s.tPending := rfl
@[simp] theorem State.timerWriteLo_cyclesTotal (v : Byte) : (s.timerWriteLo v).cyclesTotal = s.cyclesTotal := rfl
@[simp] theorem State.timerWriteLo_devState (v : Byte) : (s.timerWriteLo v).devState = s.devState := rfl

/-! ### timerWriteHi -/

@[simp] theorem State.timerWriteHi_a (v : Byte) : (s.timerWriteHi v).a = s.a := rfl
@[simp] theorem State.timerWriteHi_b (v : Byte) : (s.timerWriteHi v).b = s.b := rfl
@[simp] theorem State.timerWriteHi_c (v : Byte) : (s.timerWriteHi v).c = s.c := rfl
@[simp] theorem State.timerWriteHi_d (v : Byte) : (s.timerWriteHi v).d = s.d := rfl
@[simp] theorem State.timerWriteHi_e (v : Byte) : (s.timerWriteHi v).e = s.e := rfl
@[simp] theorem State.timerWriteHi_h (v : Byte) : (s.timerWriteHi v).h = s.h := rfl
@[simp] theorem State.timerWriteHi_l (v : Byte) : (s.timerWriteHi v).l = s.l := rfl
@[simp] theorem State.timerWriteHi_flags (v : Byte) : (s.timerWriteHi v).flags = s.flags := rfl
@[simp] theorem State.timerWriteHi_sp (v : Byte) : (s.timerWriteHi v).sp = s.sp := rfl
@[simp] theorem State.timerWriteHi_pc (v : Byte) : (s.timerWriteHi v).pc = s.pc := rfl
@[simp] theorem State.timerWriteHi_inte (v : Byte) : (s.timerWriteHi v).inte = s.inte := rfl
@[simp] theorem State.timerWriteHi_halted (v : Byte) : (s.timerWriteHi v).halted = s.halted := rfl
@[simp] theorem State.timerWriteHi_mem (v : Byte) : (s.timerWriteHi v).mem = s.mem := rfl
@[simp] theorem State.timerWriteHi_ioTab (v : Byte) : (s.timerWriteHi v).ioTab = s.ioTab := rfl
@[simp] theorem State.timerWriteHi_tCounter (v : Byte) : (s.timerWriteHi v).tCounter = mkWord v (loByte s.tReload) := rfl
@[simp] theorem State.timerWriteHi_tReload (v : Byte) : (s.timerWriteHi v).tReload = mkWord v (loByte s.tReload) := rfl
@[simp] theorem State.timerWriteHi_tEnabled (v : Byte) : (s.timerWriteHi v).tEnabled = s.tEnabled := rfl
@[simp] theorem State.timerWriteHi_tPending (v : Byte) : (s.timerWriteHi v).tPending = s.tPending := rfl
@[simp] theorem State.timerWriteHi_cyclesTotal (v : Byte) : (s.timerWriteHi v).cyclesTotal = s.cyclesTotal := rfl
@[simp] theorem State.timerWriteHi_devState (v : Byte) : (s.timerWriteHi v).devState = s.devState := rfl

/-! ### timerWriteCtl -/

@[simp] theorem State.timerWriteCtl_a (v : Byte) : (s.timerWriteCtl v).a = s.a := rfl
@[simp] theorem State.timerWriteCtl_b (v : Byte) : (s.timerWriteCtl v).b = s.b := rfl
@[simp] theorem State.timerWriteCtl_c (v : Byte) : (s.timerWriteCtl v).c = s.c := rfl
@[simp] theorem State.timerWriteCtl_d (v : Byte) : (s.timerWriteCtl v).d = s.d := rfl
@[simp] theorem State.timerWriteCtl_e (v : Byte) : (s.timerWriteCtl v).e = s.e := rfl
@[simp] theorem State.timerWriteCtl_h (v : Byte) : (s.timerWriteCtl v).h = s.h := rfl
@[simp] theorem State.timerWriteCtl_l (v : Byte) : (s.timerWriteCtl v).l = s.l := rfl
@[simp] theorem State.timerWriteCtl_flags (v : Byte) : (s.timerWriteCtl v).flags = s.flags := rfl
@[simp] theorem State.timerWriteCtl_sp (v : Byte) : (s.timerWriteCtl v).sp = s.sp := rfl
@[simp] theorem State.timerWriteCtl_pc (v : Byte) : (s.timerWriteCtl v).pc = s.pc := rfl
@[simp] theorem State.timerWriteCtl_inte (v : Byte) : (s.timerWriteCtl v).inte = s.inte := rfl
@[simp] theorem State.timerWriteCtl_halted (v : Byte) : (s.timerWriteCtl v).halted = s.halted := rfl
@[simp] theorem State.timerWriteCtl_mem (v : Byte) : (s.timerWriteCtl v).mem = s.mem := rfl
@[simp] theorem State.timerWriteCtl_ioTab (v : Byte) : (s.timerWriteCtl v).ioTab = s.ioTab := rfl
@[simp] theorem State.timerWriteCtl_tCounter (v : Byte) : (s.timerWriteCtl v).tCounter = s.tCounter := rfl
@[simp] theorem State.timerWriteCtl_tReload (v : Byte) : (s.timerWriteCtl v).tReload = s.tReload := rfl
@[simp] theorem State.timerWriteCtl_tEnabled (v : Byte) : (s.timerWriteCtl v).tEnabled = v.getLsbD 0 := rfl
@[simp] theorem State.timerWriteCtl_tPending (v : Byte) : (s.timerWriteCtl v).tPending = (if v.getLsbD 1 then false else s.tPending) := rfl
@[simp] theorem State.timerWriteCtl_cyclesTotal (v : Byte) : (s.timerWriteCtl v).cyclesTotal = s.cyclesTotal := rfl
@[simp] theorem State.timerWriteCtl_devState (v : Byte) : (s.timerWriteCtl v).devState = s.devState := rfl

/-! ### bind -/

@[simp] theorem State.bind_a (p : Byte) (d : Config.DeviceId) : (s.bind p d).a = s.a := rfl
@[simp] theorem State.bind_b (p : Byte) (d : Config.DeviceId) : (s.bind p d).b = s.b := rfl
@[simp] theorem State.bind_c (p : Byte) (d : Config.DeviceId) : (s.bind p d).c = s.c := rfl
@[simp] theorem State.bind_d (p : Byte) (d : Config.DeviceId) : (s.bind p d).d = s.d := rfl
@[simp] theorem State.bind_e (p : Byte) (d : Config.DeviceId) : (s.bind p d).e = s.e := rfl
@[simp] theorem State.bind_h (p : Byte) (d : Config.DeviceId) : (s.bind p d).h = s.h := rfl
@[simp] theorem State.bind_l (p : Byte) (d : Config.DeviceId) : (s.bind p d).l = s.l := rfl
@[simp] theorem State.bind_flags (p : Byte) (d : Config.DeviceId) : (s.bind p d).flags = s.flags := rfl
@[simp] theorem State.bind_sp (p : Byte) (d : Config.DeviceId) : (s.bind p d).sp = s.sp := rfl
@[simp] theorem State.bind_pc (p : Byte) (d : Config.DeviceId) : (s.bind p d).pc = s.pc := rfl
@[simp] theorem State.bind_inte (p : Byte) (d : Config.DeviceId) : (s.bind p d).inte = s.inte := rfl
@[simp] theorem State.bind_halted (p : Byte) (d : Config.DeviceId) : (s.bind p d).halted = s.halted := rfl
@[simp] theorem State.bind_mem (p : Byte) (d : Config.DeviceId) : (s.bind p d).mem = s.mem := rfl
@[simp] theorem State.bind_ioTab (p : Byte) (d : Config.DeviceId) : (s.bind p d).ioTab = Sparse.set none s.ioTab p.toNat (some d) := rfl
@[simp] theorem State.bind_tCounter (p : Byte) (d : Config.DeviceId) : (s.bind p d).tCounter = s.tCounter := rfl
@[simp] theorem State.bind_tReload (p : Byte) (d : Config.DeviceId) : (s.bind p d).tReload = s.tReload := rfl
@[simp] theorem State.bind_tEnabled (p : Byte) (d : Config.DeviceId) : (s.bind p d).tEnabled = s.tEnabled := rfl
@[simp] theorem State.bind_tPending (p : Byte) (d : Config.DeviceId) : (s.bind p d).tPending = s.tPending := rfl
@[simp] theorem State.bind_cyclesTotal (p : Byte) (d : Config.DeviceId) : (s.bind p d).cyclesTotal = s.cyclesTotal := rfl
@[simp] theorem State.bind_devState (p : Byte) (d : Config.DeviceId) : (s.bind p d).devState = s.devState := rfl

/-! ### setReg -/

@[simp] theorem State.setReg_flags (r : Reg) (v : Byte) : (s.setReg r v).flags = s.flags := by cases r <;> rfl
@[simp] theorem State.setReg_sp (r : Reg) (v : Byte) : (s.setReg r v).sp = s.sp := by cases r <;> rfl
@[simp] theorem State.setReg_pc (r : Reg) (v : Byte) : (s.setReg r v).pc = s.pc := by cases r <;> rfl
@[simp] theorem State.setReg_inte (r : Reg) (v : Byte) : (s.setReg r v).inte = s.inte := by cases r <;> rfl
@[simp] theorem State.setReg_halted (r : Reg) (v : Byte) : (s.setReg r v).halted = s.halted := by cases r <;> rfl
@[simp] theorem State.setReg_ioTab (r : Reg) (v : Byte) : (s.setReg r v).ioTab = s.ioTab := by cases r <;> rfl
@[simp] theorem State.setReg_tCounter (r : Reg) (v : Byte) : (s.setReg r v).tCounter = s.tCounter := by cases r <;> rfl
@[simp] theorem State.setReg_tReload (r : Reg) (v : Byte) : (s.setReg r v).tReload = s.tReload := by cases r <;> rfl
@[simp] theorem State.setReg_tEnabled (r : Reg) (v : Byte) : (s.setReg r v).tEnabled = s.tEnabled := by cases r <;> rfl
@[simp] theorem State.setReg_tPending (r : Reg) (v : Byte) : (s.setReg r v).tPending = s.tPending := by cases r <;> rfl
@[simp] theorem State.setReg_cyclesTotal (r : Reg) (v : Byte) : (s.setReg r v).cyclesTotal = s.cyclesTotal := by cases r <;> rfl
@[simp] theorem State.setReg_devState (r : Reg) (v : Byte) : (s.setReg r v).devState = s.devState := by cases r <;> rfl

/-! ### setPair -/

@[simp] theorem State.setPair_a (p : RegPair) (v : Word) : (s.setPair p v).a = s.a := by cases p <;> rfl
@[simp] theorem State.setPair_flags (p : RegPair) (v : Word) : (s.setPair p v).flags = s.flags := by cases p <;> rfl
@[simp] theorem State.setPair_pc (p : RegPair) (v : Word) : (s.setPair p v).pc = s.pc := by cases p <;> rfl
@[simp] theorem State.setPair_inte (p : RegPair) (v : Word) : (s.setPair p v).inte = s.inte := by cases p <;> rfl
@[simp] theorem State.setPair_halted (p : RegPair) (v : Word) : (s.setPair p v).halted = s.halted := by cases p <;> rfl
@[simp] theorem State.setPair_mem (p : RegPair) (v : Word) : (s.setPair p v).mem = s.mem := by cases p <;> rfl
@[simp] theorem State.setPair_ioTab (p : RegPair) (v : Word) : (s.setPair p v).ioTab = s.ioTab := by cases p <;> rfl
@[simp] theorem State.setPair_tCounter (p : RegPair) (v : Word) : (s.setPair p v).tCounter = s.tCounter := by cases p <;> rfl
@[simp] theorem State.setPair_tReload (p : RegPair) (v : Word) : (s.setPair p v).tReload = s.tReload := by cases p <;> rfl
@[simp] theorem State.setPair_tEnabled (p : RegPair) (v : Word) : (s.setPair p v).tEnabled = s.tEnabled := by cases p <;> rfl
@[simp] theorem State.setPair_tPending (p : RegPair) (v : Word) : (s.setPair p v).tPending = s.tPending := by cases p <;> rfl
@[simp] theorem State.setPair_cyclesTotal (p : RegPair) (v : Word) : (s.setPair p v).cyclesTotal = s.cyclesTotal := by cases p <;> rfl
@[simp] theorem State.setPair_devState (p : RegPair) (v : Word) : (s.setPair p v).devState = s.devState := by cases p <;> rfl

/-! ### setPushPair -/

@[simp] theorem State.setPushPair_sp (p : PushPair) (v : Word) : (s.setPushPair p v).sp = s.sp := by cases p <;> rfl
@[simp] theorem State.setPushPair_pc (p : PushPair) (v : Word) : (s.setPushPair p v).pc = s.pc := by cases p <;> rfl
@[simp] theorem State.setPushPair_inte (p : PushPair) (v : Word) : (s.setPushPair p v).inte = s.inte := by cases p <;> rfl
@[simp] theorem State.setPushPair_halted (p : PushPair) (v : Word) : (s.setPushPair p v).halted = s.halted := by cases p <;> rfl
@[simp] theorem State.setPushPair_mem (p : PushPair) (v : Word) : (s.setPushPair p v).mem = s.mem := by cases p <;> rfl
@[simp] theorem State.setPushPair_ioTab (p : PushPair) (v : Word) : (s.setPushPair p v).ioTab = s.ioTab := by cases p <;> rfl
@[simp] theorem State.setPushPair_tCounter (p : PushPair) (v : Word) : (s.setPushPair p v).tCounter = s.tCounter := by cases p <;> rfl
@[simp] theorem State.setPushPair_tReload (p : PushPair) (v : Word) : (s.setPushPair p v).tReload = s.tReload := by cases p <;> rfl
@[simp] theorem State.setPushPair_tEnabled (p : PushPair) (v : Word) : (s.setPushPair p v).tEnabled = s.tEnabled := by cases p <;> rfl
@[simp] theorem State.setPushPair_tPending (p : PushPair) (v : Word) : (s.setPushPair p v).tPending = s.tPending := by cases p <;> rfl
@[simp] theorem State.setPushPair_cyclesTotal (p : PushPair) (v : Word) : (s.setPushPair p v).cyclesTotal = s.cyclesTotal := by cases p <;> rfl
@[simp] theorem State.setPushPair_devState (p : PushPair) (v : Word) : (s.setPushPair p v).devState = s.devState := by cases p <;> rfl

end Sys2Proof.Machine
end

