-- ==== Sys2Proof/Laws/Timer.lean ====
section
/-! SUPPORT. The timer and the accounting of a step: which fields they keep, and that a tick is the one of
60_exceptions.md R325. -/

namespace Sys2Proof.Machine

variable (s : State)

/-- A tick writes T_COUNTER and T_PENDING alone. -/
theorem State.tick_eq (n : Nat) :
    s.tick n = { s with tCounter := (s.tick n).tCounter, tPending := (s.tick n).tPending } := by
  unfold State.tick
  split
  · rfl
  · split <;> rfl

@[simp] theorem State.tick_a (n : Nat) : (s.tick n).a = s.a := by rw [State.tick_eq]

@[simp] theorem State.tick_b (n : Nat) : (s.tick n).b = s.b := by rw [State.tick_eq]

@[simp] theorem State.tick_c (n : Nat) : (s.tick n).c = s.c := by rw [State.tick_eq]

@[simp] theorem State.tick_d (n : Nat) : (s.tick n).d = s.d := by rw [State.tick_eq]

@[simp] theorem State.tick_e (n : Nat) : (s.tick n).e = s.e := by rw [State.tick_eq]

@[simp] theorem State.tick_h (n : Nat) : (s.tick n).h = s.h := by rw [State.tick_eq]

@[simp] theorem State.tick_l (n : Nat) : (s.tick n).l = s.l := by rw [State.tick_eq]

@[simp] theorem State.tick_flags (n : Nat) : (s.tick n).flags = s.flags := by rw [State.tick_eq]

@[simp] theorem State.tick_sp (n : Nat) : (s.tick n).sp = s.sp := by rw [State.tick_eq]

@[simp] theorem State.tick_pc (n : Nat) : (s.tick n).pc = s.pc := by rw [State.tick_eq]

@[simp] theorem State.tick_inte (n : Nat) : (s.tick n).inte = s.inte := by rw [State.tick_eq]

@[simp] theorem State.tick_halted (n : Nat) : (s.tick n).halted = s.halted := by rw [State.tick_eq]

@[simp] theorem State.tick_mem (n : Nat) : (s.tick n).mem = s.mem := by rw [State.tick_eq]

@[simp] theorem State.tick_ioTab (n : Nat) : (s.tick n).ioTab = s.ioTab := by rw [State.tick_eq]

@[simp] theorem State.tick_tReload (n : Nat) : (s.tick n).tReload = s.tReload := by rw [State.tick_eq]

@[simp] theorem State.tick_tEnabled (n : Nat) : (s.tick n).tEnabled = s.tEnabled := by rw [State.tick_eq]

@[simp] theorem State.tick_cyclesTotal (n : Nat) : (s.tick n).cyclesTotal = s.cyclesTotal := by rw [State.tick_eq]

@[simp] theorem State.tick_devState (n : Nat) : (s.tick n).devState = s.devState := by rw [State.tick_eq]

@[simp] theorem State.account_a (n : Nat) : (s.account n).a = s.a := by simp [State.account]

@[simp] theorem State.account_b (n : Nat) : (s.account n).b = s.b := by simp [State.account]

@[simp] theorem State.account_c (n : Nat) : (s.account n).c = s.c := by simp [State.account]

@[simp] theorem State.account_d (n : Nat) : (s.account n).d = s.d := by simp [State.account]

@[simp] theorem State.account_e (n : Nat) : (s.account n).e = s.e := by simp [State.account]

@[simp] theorem State.account_h (n : Nat) : (s.account n).h = s.h := by simp [State.account]

@[simp] theorem State.account_l (n : Nat) : (s.account n).l = s.l := by simp [State.account]

@[simp] theorem State.account_flags (n : Nat) : (s.account n).flags = s.flags := by simp [State.account]

@[simp] theorem State.account_sp (n : Nat) : (s.account n).sp = s.sp := by simp [State.account]

@[simp] theorem State.account_pc (n : Nat) : (s.account n).pc = s.pc := by simp [State.account]

@[simp] theorem State.account_inte (n : Nat) : (s.account n).inte = s.inte := by simp [State.account]

@[simp] theorem State.account_halted (n : Nat) : (s.account n).halted = s.halted := by simp [State.account]

@[simp] theorem State.account_mem (n : Nat) : (s.account n).mem = s.mem := by simp [State.account]

@[simp] theorem State.account_ioTab (n : Nat) : (s.account n).ioTab = s.ioTab := by simp [State.account]

@[simp] theorem State.account_tReload (n : Nat) : (s.account n).tReload = s.tReload := by simp [State.account]

@[simp] theorem State.account_tEnabled (n : Nat) : (s.account n).tEnabled = s.tEnabled := by simp [State.account]

@[simp] theorem State.account_cyclesTotal (n : Nat) : (s.account n).cyclesTotal = s.cyclesTotal + n := by simp [State.account]

@[simp] theorem State.account_devState (n : Nat) : (s.account n).devState = s.devState := by simp [State.account]

/-- `tick` moves the timer as R325 says. -/
theorem State.ticked_tick (n : Nat) : Ticked n s (s.tick n) := by
  refine ⟨by simp, by simp, ?_, ?_, ?_⟩
  · intro h
    simp [State.tick, h]
  · intro he hr hle
    simp [State.tick, he, hr, hle]
  · intro he hr hlt
    have h : ¬ (s.tEnabled = false ∨ s.tReload = 0#16) := by simp [he, hr]
    have hnle : ¬ s.tCounter.toNat ≤ n := by omega
    have hlt16 := s.tCounter.isLt
    refine ⟨?_, ?_⟩
    · simp only [State.tick, h, hnle, if_false, BitVec.toNat_sub, BitVec.toNat_ofNat]
      omega
    · simp [State.tick, h, hnle]

/-- The pending bit after a tick (R325): set before it, or set by its expiry. -/
theorem State.tick_tPending_iff (n : Nat) :
    (s.tick n).tPending = true ↔
      s.tPending = true ∨ (s.tEnabled = true ∧ s.tReload ≠ 0x0000#16 ∧ s.tCounter.toNat ≤ n) := by
  unfold State.tick
  split_ifs with hoff hle
  · rcases hoff with h | h <;> simp [h]
  · have h := not_or.mp hoff
    simp_all
  · simp [hle]

/-- The pending bit after the accounting of a step (R301). -/
theorem State.account_tPending_iff (n : Nat) :
    (s.account n).tPending = true ↔
      s.tPending = true ∨ (s.tEnabled = true ∧ s.tReload ≠ 0x0000#16 ∧ s.tCounter.toNat ≤ n) :=
  State.tick_tPending_iff { s with cyclesTotal := s.cyclesTotal + n } n

/-- An expiring tick leaves exactly the reload value, the remainder dropped (R325, R301). -/
theorem State.account_tCounter_of_expired {n : Nat} (he : s.tEnabled = true) (hr : s.tReload ≠ 0x0000#16)
    (hle : s.tCounter.toNat ≤ n) : (s.account n).tCounter = s.tReload := by
  simp [State.account, State.tick, he, hr, hle]

/-- Accounting an updated state whose timer and cycle total are still those of `s` lets `n` cycles pass from `s`. -/
theorem State.elapsed_account {s u : State} (n : Nat) (hc : u.tCounter = s.tCounter) (hr : u.tReload = s.tReload)
    (he : u.tEnabled = s.tEnabled) (hp : u.tPending = s.tPending) (ht : u.cyclesTotal = s.cyclesTotal) :
    Elapsed n s (u.account n) := by
  refine ⟨by simp [ht], ?_⟩
  simp only [Ticked, ← hc, ← hr, ← he, ← hp]
  exact State.ticked_tick { u with cyclesTotal := u.cyclesTotal + n } n

end Sys2Proof.Machine
end

