-- ==== Sys2Proof/Laws/Io.lean ====
section
/-! SUPPORT. Ports: which fields reading and writing one keep. -/

namespace Sys2Proof.Machine

variable (s : State)

/-- Reading a port writes DEVSTATE alone. -/
theorem State.ioReadState_eq (p : Byte) : s.ioReadState p = { s with devState := (s.ioReadState p).devState } := by
  unfold State.ioReadState
  split
  · rfl
  · split <;> rfl

/-- Writing a timer port writes the four timer fields alone. -/
theorem State.timerWrite_eq (p v : Byte) :
    s.timerWrite p v =
      { s with
        tCounter := (s.timerWrite p v).tCounter
        tReload := (s.timerWrite p v).tReload
        tEnabled := (s.timerWrite p v).tEnabled
        tPending := (s.timerWrite p v).tPending } := by
  unfold State.timerWrite
  split
  · rfl
  · split <;> rfl

/-- Writing a port writes the timer or DEVSTATE alone. -/
theorem State.ioWrite_eq (p v : Byte) :
    s.ioWrite p v =
      { s with
        tCounter := (s.ioWrite p v).tCounter
        tReload := (s.ioWrite p v).tReload
        tEnabled := (s.ioWrite p v).tEnabled
        tPending := (s.ioWrite p v).tPending
        devState := (s.ioWrite p v).devState } := by
  unfold State.ioWrite
  split
  · rw [State.timerWrite_eq]
  · split <;> rfl

@[simp] theorem State.ioReadState_a (p : Byte) : (s.ioReadState p).a = s.a := by rw [State.ioReadState_eq]

@[simp] theorem State.ioReadState_b (p : Byte) : (s.ioReadState p).b = s.b := by rw [State.ioReadState_eq]

@[simp] theorem State.ioReadState_c (p : Byte) : (s.ioReadState p).c = s.c := by rw [State.ioReadState_eq]

@[simp] theorem State.ioReadState_d (p : Byte) : (s.ioReadState p).d = s.d := by rw [State.ioReadState_eq]

@[simp] theorem State.ioReadState_e (p : Byte) : (s.ioReadState p).e = s.e := by rw [State.ioReadState_eq]

@[simp] theorem State.ioReadState_h (p : Byte) : (s.ioReadState p).h = s.h := by rw [State.ioReadState_eq]

@[simp] theorem State.ioReadState_l (p : Byte) : (s.ioReadState p).l = s.l := by rw [State.ioReadState_eq]

@[simp] theorem State.ioReadState_flags (p : Byte) : (s.ioReadState p).flags = s.flags := by rw [State.ioReadState_eq]

@[simp] theorem State.ioReadState_sp (p : Byte) : (s.ioReadState p).sp = s.sp := by rw [State.ioReadState_eq]

@[simp] theorem State.ioReadState_pc (p : Byte) : (s.ioReadState p).pc = s.pc := by rw [State.ioReadState_eq]

@[simp] theorem State.ioReadState_inte (p : Byte) : (s.ioReadState p).inte = s.inte := by rw [State.ioReadState_eq]

@[simp] theorem State.ioReadState_halted (p : Byte) : (s.ioReadState p).halted = s.halted := by rw [State.ioReadState_eq]

@[simp] theorem State.ioReadState_mem (p : Byte) : (s.ioReadState p).mem = s.mem := by rw [State.ioReadState_eq]

@[simp] theorem State.ioReadState_ioTab (p : Byte) : (s.ioReadState p).ioTab = s.ioTab := by rw [State.ioReadState_eq]

@[simp] theorem State.ioReadState_tCounter (p : Byte) : (s.ioReadState p).tCounter = s.tCounter := by rw [State.ioReadState_eq]

@[simp] theorem State.ioReadState_tReload (p : Byte) : (s.ioReadState p).tReload = s.tReload := by rw [State.ioReadState_eq]

@[simp] theorem State.ioReadState_tEnabled (p : Byte) : (s.ioReadState p).tEnabled = s.tEnabled := by rw [State.ioReadState_eq]

@[simp] theorem State.ioReadState_tPending (p : Byte) : (s.ioReadState p).tPending = s.tPending := by rw [State.ioReadState_eq]

@[simp] theorem State.ioReadState_cyclesTotal (p : Byte) : (s.ioReadState p).cyclesTotal = s.cyclesTotal := by rw [State.ioReadState_eq]

@[simp] theorem State.timerWrite_a (p v : Byte) : (s.timerWrite p v).a = s.a := by rw [State.timerWrite_eq]

@[simp] theorem State.timerWrite_b (p v : Byte) : (s.timerWrite p v).b = s.b := by rw [State.timerWrite_eq]

@[simp] theorem State.timerWrite_c (p v : Byte) : (s.timerWrite p v).c = s.c := by rw [State.timerWrite_eq]

@[simp] theorem State.timerWrite_d (p v : Byte) : (s.timerWrite p v).d = s.d := by rw [State.timerWrite_eq]

@[simp] theorem State.timerWrite_e (p v : Byte) : (s.timerWrite p v).e = s.e := by rw [State.timerWrite_eq]

@[simp] theorem State.timerWrite_h (p v : Byte) : (s.timerWrite p v).h = s.h := by rw [State.timerWrite_eq]

@[simp] theorem State.timerWrite_l (p v : Byte) : (s.timerWrite p v).l = s.l := by rw [State.timerWrite_eq]

@[simp] theorem State.timerWrite_flags (p v : Byte) : (s.timerWrite p v).flags = s.flags := by rw [State.timerWrite_eq]

@[simp] theorem State.timerWrite_sp (p v : Byte) : (s.timerWrite p v).sp = s.sp := by rw [State.timerWrite_eq]

@[simp] theorem State.timerWrite_pc (p v : Byte) : (s.timerWrite p v).pc = s.pc := by rw [State.timerWrite_eq]

@[simp] theorem State.timerWrite_inte (p v : Byte) : (s.timerWrite p v).inte = s.inte := by rw [State.timerWrite_eq]

@[simp] theorem State.timerWrite_halted (p v : Byte) : (s.timerWrite p v).halted = s.halted := by rw [State.timerWrite_eq]

@[simp] theorem State.timerWrite_mem (p v : Byte) : (s.timerWrite p v).mem = s.mem := by rw [State.timerWrite_eq]

@[simp] theorem State.timerWrite_ioTab (p v : Byte) : (s.timerWrite p v).ioTab = s.ioTab := by rw [State.timerWrite_eq]

@[simp] theorem State.timerWrite_cyclesTotal (p v : Byte) : (s.timerWrite p v).cyclesTotal = s.cyclesTotal := by rw [State.timerWrite_eq]

@[simp] theorem State.timerWrite_devState (p v : Byte) : (s.timerWrite p v).devState = s.devState := by rw [State.timerWrite_eq]

@[simp] theorem State.ioWrite_a (p v : Byte) : (s.ioWrite p v).a = s.a := by rw [State.ioWrite_eq]

@[simp] theorem State.ioWrite_b (p v : Byte) : (s.ioWrite p v).b = s.b := by rw [State.ioWrite_eq]

@[simp] theorem State.ioWrite_c (p v : Byte) : (s.ioWrite p v).c = s.c := by rw [State.ioWrite_eq]

@[simp] theorem State.ioWrite_d (p v : Byte) : (s.ioWrite p v).d = s.d := by rw [State.ioWrite_eq]

@[simp] theorem State.ioWrite_e (p v : Byte) : (s.ioWrite p v).e = s.e := by rw [State.ioWrite_eq]

@[simp] theorem State.ioWrite_h (p v : Byte) : (s.ioWrite p v).h = s.h := by rw [State.ioWrite_eq]

@[simp] theorem State.ioWrite_l (p v : Byte) : (s.ioWrite p v).l = s.l := by rw [State.ioWrite_eq]

@[simp] theorem State.ioWrite_flags (p v : Byte) : (s.ioWrite p v).flags = s.flags := by rw [State.ioWrite_eq]

@[simp] theorem State.ioWrite_sp (p v : Byte) : (s.ioWrite p v).sp = s.sp := by rw [State.ioWrite_eq]

@[simp] theorem State.ioWrite_pc (p v : Byte) : (s.ioWrite p v).pc = s.pc := by rw [State.ioWrite_eq]

@[simp] theorem State.ioWrite_inte (p v : Byte) : (s.ioWrite p v).inte = s.inte := by rw [State.ioWrite_eq]

@[simp] theorem State.ioWrite_halted (p v : Byte) : (s.ioWrite p v).halted = s.halted := by rw [State.ioWrite_eq]

@[simp] theorem State.ioWrite_mem (p v : Byte) : (s.ioWrite p v).mem = s.mem := by rw [State.ioWrite_eq]

@[simp] theorem State.ioWrite_ioTab (p v : Byte) : (s.ioWrite p v).ioTab = s.ioTab := by rw [State.ioWrite_eq]

@[simp] theorem State.ioWrite_cyclesTotal (p v : Byte) : (s.ioWrite p v).cyclesTotal = s.cyclesTotal := by rw [State.ioWrite_eq]

/-- A write of a device's state keeps DEVSTATE canonical. -/
theorem State.setDevice_wf {s : State} (h : DeviceTable.wf s.devState = true) (d : Config.DeviceId) (v : Config.DevState) :
    DeviceTable.wf (s.setDevice d v).devState = true := Sparse.canonical_set h _ _

/-- Reading a port keeps DEVSTATE canonical. -/
theorem State.ioReadState_wf {s : State} (h : DeviceTable.wf s.devState = true) (p : Byte) :
    DeviceTable.wf (s.ioReadState p).devState = true := by
  unfold State.ioReadState
  split
  · exact h
  · split
    · exact h
    · exact State.setDevice_wf h _ _

/-- Writing a port keeps DEVSTATE canonical. -/
theorem State.ioWrite_wf {s : State} (h : DeviceTable.wf s.devState = true) (p v : Byte) :
    DeviceTable.wf (s.ioWrite p v).devState = true := by
  unfold State.ioWrite
  split
  · simpa using h
  · split
    · exact h
    · exact State.setDevice_wf h _ _

/-- Binding a port keeps IOTAB canonical. -/
theorem State.bind_wf {s : State} (h : PortTable.wf s.ioTab = true) (p : Byte) (d : Config.DeviceId) :
    PortTable.wf (s.bind p d).ioTab = true := by
  simp only [PortTable.wf, Bool.and_eq_true] at h ⊢
  exact ⟨Sparse.canonical_set h.1 p.toNat (some d), Sparse.below_set (dflt := none) h.2 p.isLt (some d)⟩

end Sys2Proof.Machine
end

