-- ==== Sys2Proof/Laws/Memory.lean ====
section
/-! SUPPORT. Memory: what a byte reads after each operation, and that every operation keeps the canonical form. -/

namespace Sys2Proof.Machine

variable (s : State)

/-- What a byte reads depends on MEM alone. -/
theorem State.memRead_of_mem {s t : State} (h : t.mem = s.mem) (x : Word) : t.memRead x = s.memRead x := by
  simp [State.memRead, h]

/-! ### Operations that store nothing -/

@[simp] theorem State.advance_memRead (n : Nat) (x : Word) : (s.advance n).memRead x = s.memRead x :=
  State.memRead_of_mem (by simp) x

@[simp] theorem State.jumpTo_memRead (v : Word) (x : Word) : (s.jumpTo v).memRead x = s.memRead x :=
  State.memRead_of_mem (by simp) x

@[simp] theorem State.popped_memRead (x : Word) : (s.popped).memRead x = s.memRead x :=
  State.memRead_of_mem (by simp) x

@[simp] theorem State.returnFromCall_memRead (x : Word) : (s.returnFromCall).memRead x = s.memRead x :=
  State.memRead_of_mem (by simp) x

@[simp] theorem State.setAlu_memRead (y : AluResult) (x : Word) : (s.setAlu y).memRead x = s.memRead x :=
  State.memRead_of_mem (by simp) x

@[simp] theorem State.compareA_memRead (v : Byte) (x : Word) : (s.compareA v).memRead x = s.memRead x :=
  State.memRead_of_mem (by simp) x

@[simp] theorem State.setLogic_memRead (v : Byte) (x : Word) : (s.setLogic v).memRead x = s.memRead x :=
  State.memRead_of_mem (by simp) x

@[simp] theorem State.setCarry_memRead (v : Bool) (x : Word) : (s.setCarry v).memRead x = s.memRead x :=
  State.memRead_of_mem (by simp) x

@[simp] theorem State.setFlagsKeepCarry_memRead (v : Byte) (ac : Bool) (x : Word) : (s.setFlagsKeepCarry v ac).memRead x = s.memRead x :=
  State.memRead_of_mem (by simp) x

@[simp] theorem State.setRotated_memRead (v : Byte) (cy : Bool) (x : Word) : (s.setRotated v cy).memRead x = s.memRead x :=
  State.memRead_of_mem (by simp) x

@[simp] theorem State.setPsw_memRead (v : Word) (x : Word) : (s.setPsw v).memRead x = s.memRead x :=
  State.memRead_of_mem (by simp) x

@[simp] theorem State.setPair_memRead (p : RegPair) (v : Word) (x : Word) : (s.setPair p v).memRead x = s.memRead x :=
  State.memRead_of_mem (by simp) x

@[simp] theorem State.setPushPair_memRead (p : PushPair) (v : Word) (x : Word) : (s.setPushPair p v).memRead x = s.memRead x :=
  State.memRead_of_mem (by simp) x

@[simp] theorem State.setDevice_memRead (d : Config.DeviceId) (v : Config.DevState) (x : Word) : (s.setDevice d v).memRead x = s.memRead x :=
  State.memRead_of_mem (by simp) x

@[simp] theorem State.timerWrite_memRead (p v : Byte) (x : Word) : (s.timerWrite p v).memRead x = s.memRead x :=
  State.memRead_of_mem (by simp) x

@[simp] theorem State.ioReadState_memRead (p : Byte) (x : Word) : (s.ioReadState p).memRead x = s.memRead x :=
  State.memRead_of_mem (by simp) x

@[simp] theorem State.ioWrite_memRead (p v : Byte) (x : Word) : (s.ioWrite p v).memRead x = s.memRead x :=
  State.memRead_of_mem (by simp) x

@[simp] theorem State.tick_memRead (n : Nat) (x : Word) : (s.tick n).memRead x = s.memRead x :=
  State.memRead_of_mem (by simp) x

@[simp] theorem State.account_memRead (n : Nat) (x : Word) : (s.account n).memRead x = s.memRead x :=
  State.memRead_of_mem (by simp) x

/-! ### Operations that store -/

/-- A byte reads what was written to it, and every other byte reads as before. -/
theorem State.memRead_memWrite (x y : Word) (v : Byte) :
    (s.memWrite x v).memRead y = if y = x then v else s.memRead y := by
  split
  · rename_i h
    simp [State.memRead, State.memWrite, h]
  · rename_i h
    exact Sparse.get_set_other _ _ _ fun e => h (BitVec.eq_of_toNat_eq e)

@[simp] theorem State.memRead_memWrite_self (x : Word) (v : Byte) : (s.memWrite x v).memRead x = v := by
  simp [State.memRead_memWrite]

theorem State.memRead_memWrite_other {x y : Word} (v : Byte) (h : y ≠ x) : (s.memWrite x v).memRead y = s.memRead y := by
  simp [State.memRead_memWrite, h]

/-- A 16-bit store changes the bytes at the address and the next one, and no other. -/
theorem State.memRead_memWrite16 (x v y : Word) :
    (s.memWrite16 x v).memRead y = if y = x + 1 then hiByte v else if y = x then loByte v else s.memRead y := by
  simp [State.memWrite16, State.memRead_memWrite]

/-- A push changes the two bytes below SP and no other. -/
theorem State.memRead_push16 (v y : Word) :
    (s.push16 v).memRead y = if y = s.sp - 2 then loByte v else if y = s.sp - 1 then hiByte v else s.memRead y := by
  rw [State.memRead_of_mem (t := s.push16 v) (s := (s.memWrite (s.sp - 1) (hiByte v)).memWrite (s.sp - 2) (loByte v)) rfl]
  simp [State.memRead_memWrite]

theorem State.memRead_callTo (v y : Word) :
    (s.callTo v).memRead y = if y = s.sp - 2 then loByte s.pc else if y = s.sp - 1 then hiByte s.pc else s.memRead y :=
  State.memRead_push16 s s.pc y

theorem State.memRead_deliverInterrupt (y : Word) :
    s.deliverInterrupt.memRead y =
      if y = s.sp - 2 then loByte s.pc else if y = s.sp - 1 then hiByte s.pc else s.memRead y :=
  State.memRead_push16 { s with inte := false } s.pc y

/-- A write of an operand stores only in the M form. -/
theorem State.memRead_setReg (r : Reg) (v : Byte) (y : Word) :
    (s.setReg r v).memRead y = if r = .m ∧ y = s.hl then v else s.memRead y := by
  cases r <;> simp [State.setReg, State.memRead_memWrite] <;> rfl

@[simp] theorem State.setReg_memRead_physical {r : Reg} (h : r ≠ .m) (v : Byte) (y : Word) :
    (s.setReg r v).memRead y = s.memRead y := by
  simp [State.memRead_setReg, h]

/-- The two bytes of a word stored below SP are read back as the word. -/
theorem State.popValue_push16 (v : Word) : (s.push16 v).popValue = v := by
  have h : s.sp - 2#16 + 1#16 = s.sp - 1#16 := by bv_omega
  simp [State.popValue, State.memRead_push16, h]

/-! ### The canonical form -/

/-- What keeping the canonical form means: a canonical MEM stays one. -/
theorem Memory.wf_set {m : Memory} (h : Memory.wf m = true) (x : Word) (v : Byte) :
    Memory.wf (Sparse.set Memory.unlisted m x.toNat v) = true := by
  simp only [Memory.wf, Bool.and_eq_true] at h ⊢
  exact ⟨Sparse.canonical_set h.1 _ _, Sparse.below_set h.2 x.isLt _⟩

theorem State.memWrite_wf {s : State} (h : Memory.wf s.mem = true) (x : Word) (v : Byte) :
    Memory.wf (s.memWrite x v).mem = true := Memory.wf_set h x v

theorem State.memWrite16_wf {s : State} (h : Memory.wf s.mem = true) (x v : Word) :
    Memory.wf (s.memWrite16 x v).mem = true := State.memWrite_wf (State.memWrite_wf h _ _) _ _

theorem State.push16_wf {s : State} (h : Memory.wf s.mem = true) (v : Word) : Memory.wf (s.push16 v).mem = true :=
  State.memWrite_wf (s := s.memWrite (s.sp - 1) (hiByte v)) (State.memWrite_wf h _ _) _ _

theorem State.callTo_wf {s : State} (h : Memory.wf s.mem = true) (v : Word) : Memory.wf (s.callTo v).mem = true :=
  State.push16_wf h s.pc

theorem State.deliverInterrupt_wf {s : State} (h : Memory.wf s.mem = true) : Memory.wf s.deliverInterrupt.mem = true :=
  State.push16_wf (s := { s with inte := false }) h s.pc

theorem State.setReg_wf {s : State} (h : Memory.wf s.mem = true) (r : Reg) (v : Byte) :
    Memory.wf (s.setReg r v).mem = true := by
  cases r <;> first | exact h | exact State.memWrite_wf h _ _

theorem State.placeBytes_wf {s : State} (h : Memory.wf s.mem = true) (bytes : List Byte) (start : Word) :
    Memory.wf (s.placeBytes start bytes).mem = true := by
  induction bytes generalizing s start with
  | nil => exact h
  | cons v rest ih => exact ih (State.memWrite_wf h _ _) _

/-- The memory after construction is canonical. -/
theorem State.reset_memory_wf : Memory.wf State.reset.mem = true := by decide

end Sys2Proof.Machine
end

