-- ==== Sys2Proof/Laws/Operands.lean ====
section
/-! SUPPORT. The register file: what a register reads after each operation, and the frame of a completed instruction. -/

namespace Sys2Proof.Machine

variable (s : State)

/-! ### What a register reads -/

@[simp] theorem State.setReg_reg_self (r : Reg) (v : Byte) : (s.setReg r v).reg r = v := by
  cases r <;> first | rfl | exact State.memRead_memWrite_self s s.hl v

@[simp] theorem State.setReg_reg_other {r q : Reg} (hq : q ≠ .m) (h : q ≠ r) (v : Byte) : (s.setReg r v).reg q = s.reg q := by
  cases r <;> cases q <;> first | rfl | contradiction

@[simp] theorem State.setPair_pair_self (p : RegPair) (v : Word) : (s.setPair p v).pair p = v := by
  cases p <;> simp [State.setPair, State.pair, State.hl]

/-- Two states with the same seven registers read the same in every register but M. -/
theorem State.reg_of_fields {s t : State} (ha : t.a = s.a) (hb : t.b = s.b) (hc : t.c = s.c) (hd : t.d = s.d)
    (he : t.e = s.e) (hh : t.h = s.h) (hl : t.l = s.l) {r : Reg} (hr : r ≠ .m) : t.reg r = s.reg r := by
  cases r <;> first | assumption | contradiction

@[simp] theorem State.advance_reg (n : Nat) (r : Reg) : (s.advance n).reg r = s.reg r := by cases r <;> rfl

@[simp] theorem State.advance_hl (n : Nat) : (s.advance n).hl = s.hl := rfl

@[simp] theorem State.account_hl (n : Nat) : (s.account n).hl = s.hl := by simp [State.hl]

@[simp] theorem State.account_reg (n : Nat) (r : Reg) : (s.account n).reg r = s.reg r := by
  cases r <;> simp [State.reg]

@[simp] theorem State.account_pair (n : Nat) (p : RegPair) : (s.account n).pair p = s.pair p := by
  cases p <;> simp [State.pair]

/-! ### Frames -/

/-- A completed instruction changes nothing beyond what its effect changed, but for the passing of its cycles. -/
theorem State.frame_account {s u : State} {regs : List Reg} {bytes : List Word} (n : Nat) (hregs : SameRegsBut regs s u)
    (hmem : SameMemoryBut bytes s u) (hctl : SameControl s u) (hc : u.tCounter = s.tCounter) (hr : u.tReload = s.tReload)
    (he : u.tEnabled = s.tEnabled) (hp : u.tPending = s.tPending) (ht : u.cyclesTotal = s.cyclesTotal) :
    Frame regs bytes n s (u.account n) := by
  refine ⟨fun r h1 h2 => ?_, fun x hx => ?_, ?_, State.elapsed_account n hc hr he hp ht⟩
  · rw [State.account_reg]
    exact hregs r h1 h2
  · rw [State.account_memRead]
    exact hmem x hx
  · simpa [SameControl] using hctl

end Sys2Proof.Machine
end

