-- ==== Sys2Proof/Laws/PerInstr.lean ====
section
/-! SUPPORT. A family of statements about every instruction as syntax: its encoding has the length that its opcode byte
announces (30_encoding.md R80, R88). -/

namespace Sys2Proof.Laws

/-- The opcode byte of the encoding alone gives its length, which is 1, 2 or 3. -/
def EncodeLength.Statement (i : Instr) : Prop :=
  i.wf = true → ∃ op rest, encode i = op :: rest ∧ (encode i).length = lengthOf op ∧ 1 ≤ lengthOf op ∧ lengthOf op ≤ 3

theorem EncodeLength.nop : EncodeLength.Statement (.nop) := fun _ => ⟨_, _, rfl, rfl, by decide, by decide⟩

theorem EncodeLength.nop08 : EncodeLength.Statement (.nop08) := fun _ => ⟨_, _, rfl, rfl, by decide, by decide⟩

theorem EncodeLength.nop10 : EncodeLength.Statement (.nop10) := fun _ => ⟨_, _, rfl, rfl, by decide, by decide⟩

theorem EncodeLength.nop18 : EncodeLength.Statement (.nop18) := fun _ => ⟨_, _, rfl, rfl, by decide, by decide⟩

theorem EncodeLength.nop20 : EncodeLength.Statement (.nop20) := fun _ => ⟨_, _, rfl, rfl, by decide, by decide⟩

theorem EncodeLength.nop28 : EncodeLength.Statement (.nop28) := fun _ => ⟨_, _, rfl, rfl, by decide, by decide⟩

theorem EncodeLength.nop30 : EncodeLength.Statement (.nop30) := fun _ => ⟨_, _, rfl, rfl, by decide, by decide⟩

theorem EncodeLength.nop38 : EncodeLength.Statement (.nop38) := fun _ => ⟨_, _, rfl, rfl, by decide, by decide⟩

theorem EncodeLength.hlt : EncodeLength.Statement (.hlt) := fun _ => ⟨_, _, rfl, rfl, by decide, by decide⟩

theorem EncodeLength.movRR (dst src : Reg) : EncodeLength.Statement (.movRR dst src) := fun _ => by
  cases dst <;> cases src <;> exact ⟨_, _, rfl, rfl, by decide, by decide⟩

theorem EncodeLength.movRM (dst : Reg) : EncodeLength.Statement (.movRM dst) := fun _ => by
  cases dst <;> exact ⟨_, _, rfl, rfl, by decide, by decide⟩

theorem EncodeLength.movMR (src : Reg) : EncodeLength.Statement (.movMR src) := fun _ => by
  cases src <;> exact ⟨_, _, rfl, rfl, by decide, by decide⟩

theorem EncodeLength.mviR (dst : Reg) (d8 : Byte) : EncodeLength.Statement (.mviR dst d8) := fun _ => by
  cases dst <;> exact ⟨_, _, rfl, rfl, by decide, by decide⟩

theorem EncodeLength.mviM (d8 : Byte) : EncodeLength.Statement (.mviM d8) := fun _ => ⟨_, _, rfl, rfl, by decide, by decide⟩

theorem EncodeLength.lxi (p : RegPair) (d16 : Word) : EncodeLength.Statement (.lxi p d16) := fun _ => by
  cases p <;> exact ⟨_, _, rfl, rfl, by decide, by decide⟩

theorem EncodeLength.lda (addr : Word) : EncodeLength.Statement (.lda addr) := fun _ => ⟨_, _, rfl, rfl, by decide, by decide⟩

theorem EncodeLength.sta (addr : Word) : EncodeLength.Statement (.sta addr) := fun _ => ⟨_, _, rfl, rfl, by decide, by decide⟩

theorem EncodeLength.lhld (addr : Word) : EncodeLength.Statement (.lhld addr) := fun _ => ⟨_, _, rfl, rfl, by decide, by decide⟩

theorem EncodeLength.shld (addr : Word) : EncodeLength.Statement (.shld addr) := fun _ => ⟨_, _, rfl, rfl, by decide, by decide⟩

theorem EncodeLength.ldax (p : RegPair) : EncodeLength.Statement (.ldax p) := fun h => by
  cases p
  case bc | de => exact ⟨_, _, rfl, rfl, by decide, by decide⟩
  case hl | sp => exact absurd h (by decide)

theorem EncodeLength.stax (p : RegPair) : EncodeLength.Statement (.stax p) := fun h => by
  cases p
  case bc | de => exact ⟨_, _, rfl, rfl, by decide, by decide⟩
  case hl | sp => exact absurd h (by decide)

theorem EncodeLength.xchg : EncodeLength.Statement (.xchg) := fun _ => ⟨_, _, rfl, rfl, by decide, by decide⟩

theorem EncodeLength.add (src : Reg) : EncodeLength.Statement (.add src) := fun _ => by
  cases src <;> exact ⟨_, _, rfl, rfl, by decide, by decide⟩

theorem EncodeLength.adc (src : Reg) : EncodeLength.Statement (.adc src) := fun _ => by
  cases src <;> exact ⟨_, _, rfl, rfl, by decide, by decide⟩

theorem EncodeLength.sub (src : Reg) : EncodeLength.Statement (.sub src) := fun _ => by
  cases src <;> exact ⟨_, _, rfl, rfl, by decide, by decide⟩

theorem EncodeLength.sbb (src : Reg) : EncodeLength.Statement (.sbb src) := fun _ => by
  cases src <;> exact ⟨_, _, rfl, rfl, by decide, by decide⟩

theorem EncodeLength.ana (src : Reg) : EncodeLength.Statement (.ana src) := fun _ => by
  cases src <;> exact ⟨_, _, rfl, rfl, by decide, by decide⟩

theorem EncodeLength.xra (src : Reg) : EncodeLength.Statement (.xra src) := fun _ => by
  cases src <;> exact ⟨_, _, rfl, rfl, by decide, by decide⟩

theorem EncodeLength.ora (src : Reg) : EncodeLength.Statement (.ora src) := fun _ => by
  cases src <;> exact ⟨_, _, rfl, rfl, by decide, by decide⟩

theorem EncodeLength.cmp (src : Reg) : EncodeLength.Statement (.cmp src) := fun _ => by
  cases src <;> exact ⟨_, _, rfl, rfl, by decide, by decide⟩

theorem EncodeLength.adi (d8 : Byte) : EncodeLength.Statement (.adi d8) := fun _ => ⟨_, _, rfl, rfl, by decide, by decide⟩

theorem EncodeLength.aci (d8 : Byte) : EncodeLength.Statement (.aci d8) := fun _ => ⟨_, _, rfl, rfl, by decide, by decide⟩

theorem EncodeLength.sui (d8 : Byte) : EncodeLength.Statement (.sui d8) := fun _ => ⟨_, _, rfl, rfl, by decide, by decide⟩

theorem EncodeLength.sbi (d8 : Byte) : EncodeLength.Statement (.sbi d8) := fun _ => ⟨_, _, rfl, rfl, by decide, by decide⟩

theorem EncodeLength.ani (d8 : Byte) : EncodeLength.Statement (.ani d8) := fun _ => ⟨_, _, rfl, rfl, by decide, by decide⟩

theorem EncodeLength.xri (d8 : Byte) : EncodeLength.Statement (.xri d8) := fun _ => ⟨_, _, rfl, rfl, by decide, by decide⟩

theorem EncodeLength.ori (d8 : Byte) : EncodeLength.Statement (.ori d8) := fun _ => ⟨_, _, rfl, rfl, by decide, by decide⟩

theorem EncodeLength.cpi (d8 : Byte) : EncodeLength.Statement (.cpi d8) := fun _ => ⟨_, _, rfl, rfl, by decide, by decide⟩

theorem EncodeLength.inr (dst : Reg) : EncodeLength.Statement (.inr dst) := fun _ => by
  cases dst <;> exact ⟨_, _, rfl, rfl, by decide, by decide⟩

theorem EncodeLength.dcr (dst : Reg) : EncodeLength.Statement (.dcr dst) := fun _ => by
  cases dst <;> exact ⟨_, _, rfl, rfl, by decide, by decide⟩

theorem EncodeLength.inx (p : RegPair) : EncodeLength.Statement (.inx p) := fun _ => by
  cases p <;> exact ⟨_, _, rfl, rfl, by decide, by decide⟩

theorem EncodeLength.dcx (p : RegPair) : EncodeLength.Statement (.dcx p) := fun _ => by
  cases p <;> exact ⟨_, _, rfl, rfl, by decide, by decide⟩

theorem EncodeLength.dad (p : RegPair) : EncodeLength.Statement (.dad p) := fun _ => by
  cases p <;> exact ⟨_, _, rfl, rfl, by decide, by decide⟩

theorem EncodeLength.daa : EncodeLength.Statement (.daa) := fun _ => ⟨_, _, rfl, rfl, by decide, by decide⟩

theorem EncodeLength.rlc : EncodeLength.Statement (.rlc) := fun _ => ⟨_, _, rfl, rfl, by decide, by decide⟩

theorem EncodeLength.rrc : EncodeLength.Statement (.rrc) := fun _ => ⟨_, _, rfl, rfl, by decide, by decide⟩

theorem EncodeLength.ral : EncodeLength.Statement (.ral) := fun _ => ⟨_, _, rfl, rfl, by decide, by decide⟩

theorem EncodeLength.rar : EncodeLength.Statement (.rar) := fun _ => ⟨_, _, rfl, rfl, by decide, by decide⟩

theorem EncodeLength.cma : EncodeLength.Statement (.cma) := fun _ => ⟨_, _, rfl, rfl, by decide, by decide⟩

theorem EncodeLength.stc : EncodeLength.Statement (.stc) := fun _ => ⟨_, _, rfl, rfl, by decide, by decide⟩

theorem EncodeLength.cmc : EncodeLength.Statement (.cmc) := fun _ => ⟨_, _, rfl, rfl, by decide, by decide⟩

theorem EncodeLength.jmp (addr : Word) : EncodeLength.Statement (.jmp addr) := fun _ => ⟨_, _, rfl, rfl, by decide, by decide⟩

theorem EncodeLength.jnz (addr : Word) : EncodeLength.Statement (.jnz addr) := fun _ => ⟨_, _, rfl, rfl, by decide, by decide⟩

theorem EncodeLength.jz (addr : Word) : EncodeLength.Statement (.jz addr) := fun _ => ⟨_, _, rfl, rfl, by decide, by decide⟩

theorem EncodeLength.jnc (addr : Word) : EncodeLength.Statement (.jnc addr) := fun _ => ⟨_, _, rfl, rfl, by decide, by decide⟩

theorem EncodeLength.jc (addr : Word) : EncodeLength.Statement (.jc addr) := fun _ => ⟨_, _, rfl, rfl, by decide, by decide⟩

theorem EncodeLength.jpo (addr : Word) : EncodeLength.Statement (.jpo addr) := fun _ => ⟨_, _, rfl, rfl, by decide, by decide⟩

theorem EncodeLength.jpe (addr : Word) : EncodeLength.Statement (.jpe addr) := fun _ => ⟨_, _, rfl, rfl, by decide, by decide⟩

theorem EncodeLength.jp (addr : Word) : EncodeLength.Statement (.jp addr) := fun _ => ⟨_, _, rfl, rfl, by decide, by decide⟩

theorem EncodeLength.jm (addr : Word) : EncodeLength.Statement (.jm addr) := fun _ => ⟨_, _, rfl, rfl, by decide, by decide⟩

theorem EncodeLength.pchl : EncodeLength.Statement (.pchl) := fun _ => ⟨_, _, rfl, rfl, by decide, by decide⟩

theorem EncodeLength.call (addr : Word) : EncodeLength.Statement (.call addr) := fun _ => ⟨_, _, rfl, rfl, by decide, by decide⟩

theorem EncodeLength.cnz (addr : Word) : EncodeLength.Statement (.cnz addr) := fun _ => ⟨_, _, rfl, rfl, by decide, by decide⟩

theorem EncodeLength.cz (addr : Word) : EncodeLength.Statement (.cz addr) := fun _ => ⟨_, _, rfl, rfl, by decide, by decide⟩

theorem EncodeLength.cnc (addr : Word) : EncodeLength.Statement (.cnc addr) := fun _ => ⟨_, _, rfl, rfl, by decide, by decide⟩

theorem EncodeLength.cc (addr : Word) : EncodeLength.Statement (.cc addr) := fun _ => ⟨_, _, rfl, rfl, by decide, by decide⟩

theorem EncodeLength.cpo (addr : Word) : EncodeLength.Statement (.cpo addr) := fun _ => ⟨_, _, rfl, rfl, by decide, by decide⟩

theorem EncodeLength.cpe (addr : Word) : EncodeLength.Statement (.cpe addr) := fun _ => ⟨_, _, rfl, rfl, by decide, by decide⟩

theorem EncodeLength.cp (addr : Word) : EncodeLength.Statement (.cp addr) := fun _ => ⟨_, _, rfl, rfl, by decide, by decide⟩

theorem EncodeLength.cm (addr : Word) : EncodeLength.Statement (.cm addr) := fun _ => ⟨_, _, rfl, rfl, by decide, by decide⟩

theorem EncodeLength.ret : EncodeLength.Statement (.ret) := fun _ => ⟨_, _, rfl, rfl, by decide, by decide⟩

theorem EncodeLength.rnz : EncodeLength.Statement (.rnz) := fun _ => ⟨_, _, rfl, rfl, by decide, by decide⟩

theorem EncodeLength.rz : EncodeLength.Statement (.rz) := fun _ => ⟨_, _, rfl, rfl, by decide, by decide⟩

theorem EncodeLength.rnc : EncodeLength.Statement (.rnc) := fun _ => ⟨_, _, rfl, rfl, by decide, by decide⟩

theorem EncodeLength.rc : EncodeLength.Statement (.rc) := fun _ => ⟨_, _, rfl, rfl, by decide, by decide⟩

theorem EncodeLength.rpo : EncodeLength.Statement (.rpo) := fun _ => ⟨_, _, rfl, rfl, by decide, by decide⟩

theorem EncodeLength.rpe : EncodeLength.Statement (.rpe) := fun _ => ⟨_, _, rfl, rfl, by decide, by decide⟩

theorem EncodeLength.rp : EncodeLength.Statement (.rp) := fun _ => ⟨_, _, rfl, rfl, by decide, by decide⟩

theorem EncodeLength.rm : EncodeLength.Statement (.rm) := fun _ => ⟨_, _, rfl, rfl, by decide, by decide⟩

theorem EncodeLength.rst (n : BitVec 3) : EncodeLength.Statement (.rst n) := fun _ => by
  have h : ∀ n : BitVec 3, lengthOf (0b11#2 ++ n ++ 0b111#3) = 1 := by decide
  exact ⟨_, _, rfl, (h n).symm, by rw [h n], by rw [h n]; decide⟩

theorem EncodeLength.push (p : PushPair) : EncodeLength.Statement (.push p) := fun _ => by
  cases p <;> exact ⟨_, _, rfl, rfl, by decide, by decide⟩

theorem EncodeLength.pushPsw : EncodeLength.Statement (.pushPsw) := fun _ => ⟨_, _, rfl, rfl, by decide, by decide⟩

theorem EncodeLength.pop (p : PushPair) : EncodeLength.Statement (.pop p) := fun _ => by
  cases p <;> exact ⟨_, _, rfl, rfl, by decide, by decide⟩

theorem EncodeLength.popPsw : EncodeLength.Statement (.popPsw) := fun _ => ⟨_, _, rfl, rfl, by decide, by decide⟩

theorem EncodeLength.xthl : EncodeLength.Statement (.xthl) := fun _ => ⟨_, _, rfl, rfl, by decide, by decide⟩

theorem EncodeLength.sphl : EncodeLength.Statement (.sphl) := fun _ => ⟨_, _, rfl, rfl, by decide, by decide⟩

theorem EncodeLength.inPort (port : Byte) : EncodeLength.Statement (.inPort port) := fun _ => ⟨_, _, rfl, rfl, by decide, by decide⟩

theorem EncodeLength.outPort (port : Byte) : EncodeLength.Statement (.outPort port) := fun _ => ⟨_, _, rfl, rfl, by decide, by decide⟩

theorem EncodeLength.ei : EncodeLength.Statement (.ei) := fun _ => ⟨_, _, rfl, rfl, by decide, by decide⟩

theorem EncodeLength.di : EncodeLength.Statement (.di) := fun _ => ⟨_, _, rfl, rfl, by decide, by decide⟩

theorem EncodeLength.illegalCB : EncodeLength.Statement (.illegalCB) := fun _ => ⟨_, _, rfl, rfl, by decide, by decide⟩

theorem EncodeLength.illegalD9 : EncodeLength.Statement (.illegalD9) := fun _ => ⟨_, _, rfl, rfl, by decide, by decide⟩

theorem EncodeLength.illegalDD : EncodeLength.Statement (.illegalDD) := fun _ => ⟨_, _, rfl, rfl, by decide, by decide⟩

theorem EncodeLength.illegalED : EncodeLength.Statement (.illegalED) := fun _ => ⟨_, _, rfl, rfl, by decide, by decide⟩

theorem EncodeLength.illegalFD : EncodeLength.Statement (.illegalFD) := fun _ => ⟨_, _, rfl, rfl, by decide, by decide⟩

end Sys2Proof.Laws
end

