-- ==== Sys2Proof/Tests/Slice0.lean ====
section
/-! SUPPORT. The model's own tests, each about one step, one word or one term. Expected results are those of
spec/95_test_vectors.md (tables V10 to V50, programs P4 and P5) and of the examples in the rules; each comment names its source.
The last section shows, for each statement with hypotheses, that concrete states and operands meet them together. -/

namespace Sys2Proof.Tests

open Sys2Proof.Machine

/-! ### Helpers -/

/-- The start state of tables V10 and V43. -/
def v10 : State :=
  { State.reset with
    a := 0x11#8, b := 0x22#8, c := 0x33#8, d := 0x44#8, e := 0x55#8, h := 0x20#8, l := 0x10#8
    flags := 0xD7#8, sp := 0xF000#16, pc := 0x0100#16, mem := [(0x2010, 0x99#8)] }

/-- The machine right after reset with A, B and FLAGS set, as in tables V20 and V23 to V25. -/
def alu (a b flags : Byte) : State := { State.reset with a := a, b := b, flags := flags }

/-- Bytes placed at PC. -/
def place (s : State) (bytes : List Byte) : State := s.placeBytes s.pc bytes

/-- The outcome is a next state that passes the check. -/
def nextIs (o : Host.Outcome State Fault Refusal) (check : State → Bool) : Bool :=
  match o with
  | .next t => check t
  | _ => false

/-- One step of the bytes at PC takes `len` bytes and `cyc` cycles, changes what `f` changes and nothing else. -/
def gives (s : State) (bytes : List Byte) (len cyc : Nat) (f : State → State) : Bool :=
  let u := place s bytes
  nextIs (step u) fun t => t = f { u with pc := u.pc + BitVec.ofNat 16 len, cyclesTotal := u.cyclesTotal + cyc }

/-- The fault of one step of the bytes at PC. -/
def faultOf (s : State) (bytes : List Byte) : Option Fault :=
  match step (place s bytes) with
  | .fault f => some f
  | _ => none

/-- Each list of bytes decodes to its instruction, with nothing left. -/
def decodesTo (rows : List (List Byte × Instr)) : Bool :=
  rows.all fun row =>
    match decode row.1 with
    | .ok (i, []) => i = row.2
    | _ => false

/-! ### Ill-formed terms are refused (spec/opcode_table.json, operand restrictions) -/

theorem test_ill_formed_movRR_destination_M : Instr.wf (.movRR .m .a) = false := by decide

theorem test_ill_formed_movRR_source_M : Instr.wf (.movRR .a .m) = false := by decide

theorem test_ill_formed_movRM_destination_M : Instr.wf (.movRM .m) = false := by decide

theorem test_ill_formed_movMR_source_M : Instr.wf (.movMR .m) = false := by decide

theorem test_ill_formed_mviR_destination_M : Instr.wf (.mviR .m 0x00#8) = false := by decide

theorem test_ill_formed_ldax_HL : Instr.wf (.ldax .hl) = false := by decide

theorem test_ill_formed_stax_SP : Instr.wf (.stax .sp) = false := by decide

theorem test_ill_formed_push_PSW : Instr.wf (.push .psw) = false := by decide

theorem test_ill_formed_pop_PSW : Instr.wf (.pop .psw) = false := by decide

theorem test_well_formed_terms : (Instr.wf (.movRR .b .a) && Instr.wf (.ldax .de) && Instr.wf (.push .hl) && Instr.wf (.mviR .a 0x00#8)) = true := by
  decide

/-! ### Decoding: words written out bit by bit from the formats and values of 30_encoding.md R81, R86 and R88 -/

theorem test_decode_data_transfer : decodesTo
    [([0b01000111#8], .movRR .b .a),
     ([0b01111110#8], .movRM .a),
     ([0b01110011#8], .movMR .e),
     ([0b00010110#8, 0x5A#8], .mviR .d 0x5A#8),
     ([0b00110110#8, 0x5A#8], .mviM 0x5A#8),
     ([0b00000001#8, 0x02#8, 0x01#8], .lxi .bc 0x0102#16),
     ([0b00111010#8, 0x10#8, 0x20#8], .lda 0x2010#16),
     ([0b00110010#8, 0x00#8, 0x30#8], .sta 0x3000#16),
     ([0b00101010#8, 0x00#8, 0x30#8], .lhld 0x3000#16),
     ([0b00100010#8, 0x00#8, 0x30#8], .shld 0x3000#16),
     ([0b00001010#8], .ldax .bc),
     ([0b00011010#8], .ldax .de),
     ([0b00000010#8], .stax .bc),
     ([0b00010010#8], .stax .de),
     ([0b11101011#8], .xchg)] = true := by decide

theorem test_decode_arithmetic : decodesTo
    [([0b10000000#8], .add .b),
     ([0b10001001#8], .adc .c),
     ([0b10010010#8], .sub .d),
     ([0b10011101#8], .sbb .l),
     ([0b11000110#8, 0x0F#8], .adi 0x0F#8),
     ([0b11001110#8, 0x0F#8], .aci 0x0F#8),
     ([0b11010110#8, 0x0F#8], .sui 0x0F#8),
     ([0b11011110#8, 0x0F#8], .sbi 0x0F#8),
     ([0b00110100#8], .inr .m),
     ([0b00111101#8], .dcr .a),
     ([0b00100011#8], .inx .hl),
     ([0b00111011#8], .dcx .sp),
     ([0b00011001#8], .dad .de),
     ([0b00100111#8], .daa)] = true := by decide

theorem test_decode_logical : decodesTo
    [([0b10100011#8], .ana .e),
     ([0b10101100#8], .xra .h),
     ([0b10110110#8], .ora .m),
     ([0b10111111#8], .cmp .a),
     ([0b11100110#8, 0x0F#8], .ani 0x0F#8),
     ([0b11101110#8, 0x0F#8], .xri 0x0F#8),
     ([0b11110110#8, 0x0F#8], .ori 0x0F#8),
     ([0b11111110#8, 0x0F#8], .cpi 0x0F#8),
     ([0b00000111#8], .rlc),
     ([0b00001111#8], .rrc),
     ([0b00010111#8], .ral),
     ([0b00011111#8], .rar),
     ([0b00101111#8], .cma),
     ([0b00110111#8], .stc),
     ([0b00111111#8], .cmc)] = true := by decide

theorem test_decode_jumps : decodesTo
    [([0b11000011#8, 0x00#8, 0x02#8], .jmp 0x0200#16),
     ([0b11000010#8, 0x34#8, 0x12#8], .jnz 0x1234#16),
     ([0b11001010#8, 0x34#8, 0x12#8], .jz 0x1234#16),
     ([0b11010010#8, 0x34#8, 0x12#8], .jnc 0x1234#16),
     ([0b11011010#8, 0x34#8, 0x12#8], .jc 0x1234#16),
     ([0b11100010#8, 0x34#8, 0x12#8], .jpo 0x1234#16),
     ([0b11101010#8, 0x34#8, 0x12#8], .jpe 0x1234#16),
     ([0b11110010#8, 0x34#8, 0x12#8], .jp 0x1234#16),
     ([0b11111010#8, 0x34#8, 0x12#8], .jm 0x1234#16),
     ([0b11101001#8], .pchl)] = true := by decide

theorem test_decode_calls_and_returns : decodesTo
    [([0b11001101#8, 0x00#8, 0x02#8], .call 0x0200#16),
     ([0b11000100#8, 0x34#8, 0x12#8], .cnz 0x1234#16),
     ([0b11001100#8, 0x34#8, 0x12#8], .cz 0x1234#16),
     ([0b11010100#8, 0x34#8, 0x12#8], .cnc 0x1234#16),
     ([0b11011100#8, 0x34#8, 0x12#8], .cc 0x1234#16),
     ([0b11100100#8, 0x34#8, 0x12#8], .cpo 0x1234#16),
     ([0b11101100#8, 0x34#8, 0x12#8], .cpe 0x1234#16),
     ([0b11110100#8, 0x34#8, 0x12#8], .cp 0x1234#16),
     ([0b11111100#8, 0x34#8, 0x12#8], .cm 0x1234#16),
     ([0b11001001#8], .ret),
     ([0b11000000#8], .rnz),
     ([0b11001000#8], .rz),
     ([0b11010000#8], .rnc),
     ([0b11011000#8], .rc),
     ([0b11100000#8], .rpo),
     ([0b11101000#8], .rpe),
     ([0b11110000#8], .rp),
     ([0b11111000#8], .rm),
     ([0b11010111#8], .rst 2#3)] = true := by decide

theorem test_decode_stack_io_control : decodesTo
    [([0b11100101#8], .push .hl),
     ([0b11110101#8], .pushPsw),
     ([0b11010001#8], .pop .de),
     ([0b11110001#8], .popPsw),
     ([0b11100011#8], .xthl),
     ([0b11111001#8], .sphl),
     ([0b11011011#8, 0x10#8], .inPort 0x10#8),
     ([0b11010011#8, 0x32#8], .outPort 0x32#8),
     ([0b11111011#8], .ei),
     ([0b11110011#8], .di),
     ([0b01110110#8], .hlt),
     ([0b00000000#8], .nop),
     ([0b00001000#8], .nop08),
     ([0b00010000#8], .nop10),
     ([0b00011000#8], .nop18),
     ([0b00100000#8], .nop20),
     ([0b00101000#8], .nop28),
     ([0b00110000#8], .nop30),
     ([0b00111000#8], .nop38)] = true := by decide

theorem test_decode_illegal_bytes : decodesTo
    [([0b11001011#8], .illegalCB),
     ([0b11011001#8], .illegalD9),
     ([0b11011101#8], .illegalDD),
     ([0b11101101#8], .illegalED),
     ([0b11111101#8], .illegalFD)] = true := by decide

/-- Missing operand bytes are reported, and the bytes after an instruction are left (R80). -/
theorem test_decode_truncated : decode [0xC3#8, 0x00#8] = .error (.truncated 0xC3#8) ∧ decode [] = .error .noBytes ∧
    decode [0x3E#8, 0x09#8, 0x06#8] = .ok (.mviR .a 0x09#8, [0x06#8]) := ⟨rfl, rfl, rfl⟩

/-- The first byte of a table word is its bits 7 to 0; here `JMP 0x1234`. -/
theorem test_decodeTableWord_jmp : decodeTableWord 24 0x1234C3 = some (.jmp 0x1234#16) := by decide

/-- The bits above the table's are zero. -/
theorem test_decodeTableWord_short : decodeTableWord 8 0xFFFF3E = some (.mviR .a 0x00#8) := by decide

/-- A placed word runs as the first instruction after reset. -/
theorem test_withFetchWord_runs : nextIs (step (State.reset.withFetchWord 24 0x1234C3)) (fun t => t.pc = 0x1234#16) = true := by decide

/-! ### Data transfer: table V10 -/

theorem test_movRR_B_A : gives v10 [0x47#8] 1 5 (fun t => { t with b := 0x11#8 }) = true := by decide

theorem test_movRR_L_L : gives v10 [0x6D#8] 1 5 (fun t => t) = true := by decide

theorem test_movRM_H_uses_old_HL : gives v10 [0x66#8] 1 7 (fun t => { t with h := 0x99#8 }) = true := by decide

theorem test_movRM_A : gives v10 [0x7E#8] 1 7 (fun t => { t with a := 0x99#8 }) = true := by decide

theorem test_movMR_E : gives v10 [0x73#8] 1 7 (fun t => ((t).memWrite 0x2010#16 0x55#8)) = true := by decide

theorem test_movMR_H : gives v10 [0x74#8] 1 7 (fun t => ((t).memWrite 0x2010#16 0x20#8)) = true := by decide

theorem test_mviR_D : gives v10 [0x16#8, 0x5A#8] 2 7 (fun t => { t with d := 0x5A#8 }) = true := by decide

theorem test_mviM : gives v10 [0x36#8, 0x5A#8] 2 10 (fun t => ((t).memWrite 0x2010#16 0x5A#8)) = true := by decide

theorem test_lxi_BC : gives v10 [0x01#8, 0x02#8, 0x01#8] 3 10 (fun t => { t with b := 0x01#8, c := 0x02#8 }) = true := by decide

theorem test_lxi_SP : gives v10 [0x31#8, 0xEF#8, 0xBE#8] 3 10 (fun t => { t with sp := 0xBEEF#16 }) = true := by decide

theorem test_lda : gives v10 [0x3A#8, 0x10#8, 0x20#8] 3 13 (fun t => { t with a := 0x99#8 }) = true := by decide

theorem test_sta : gives v10 [0x32#8, 0x00#8, 0x30#8] 3 13 (fun t => ((t).memWrite 0x3000#16 0x11#8)) = true := by decide

theorem test_lhld : gives ((((v10).memWrite 0x3000#16 0xCD#8)).memWrite 0x3001#16 0xAB#8) [0x2A#8, 0x00#8, 0x30#8] 3 16 (fun t => { t with l := 0xCD#8, h := 0xAB#8 }) = true := by decide

theorem test_shld : gives v10 [0x22#8, 0x00#8, 0x30#8] 3 16 (fun t => ((((t).memWrite 0x3000#16 0x10#8)).memWrite 0x3001#16 0x20#8)) = true := by decide

theorem test_ldax_BC : gives ((v10).memWrite 0x2233#16 0x77#8) [0x0A#8] 1 7 (fun t => { t with a := 0x77#8 }) = true := by decide

theorem test_ldax_DE : gives ((v10).memWrite 0x4455#16 0x88#8) [0x1A#8] 1 7 (fun t => { t with a := 0x88#8 }) = true := by decide

theorem test_stax_BC : gives v10 [0x02#8] 1 7 (fun t => ((t).memWrite 0x2233#16 0x11#8)) = true := by decide

theorem test_stax_DE : gives v10 [0x12#8] 1 7 (fun t => ((t).memWrite 0x4455#16 0x11#8)) = true := by decide

theorem test_xchg : gives v10 [0xEB#8] 1 4 (fun t => { t with d := 0x20#8, e := 0x10#8, h := 0x44#8, l := 0x55#8 }) = true := by decide

/-! ### Arithmetic and logic: tables V20 to V25 -/

theorem test_add_FF_01_0 : gives (alu 0xFF#8 0x01#8 0x02#8) [0x80#8] 1 4 (fun t => { t with a := 0x00#8, flags := 0x57#8 }) = true := by decide

theorem test_add_80_80_0 : gives (alu 0x80#8 0x80#8 0x02#8) [0x80#8] 1 4 (fun t => { t with a := 0x00#8, flags := 0x47#8 }) = true := by decide

theorem test_adc_0F_00_1 : gives (alu 0x0F#8 0x00#8 0x03#8) [0x88#8] 1 4 (fun t => { t with a := 0x10#8, flags := 0x12#8 }) = true := by decide

theorem test_adc_FF_FF_1 : gives (alu 0xFF#8 0xFF#8 0x03#8) [0x88#8] 1 4 (fun t => { t with a := 0xFF#8, flags := 0x97#8 }) = true := by decide

theorem test_sub_55_AA_0 : gives (alu 0x55#8 0xAA#8 0x02#8) [0x90#8] 1 4 (fun t => { t with a := 0xAB#8, flags := 0x83#8 }) = true := by decide

theorem test_sub_00_00_0 : gives (alu 0x00#8 0x00#8 0x02#8) [0x90#8] 1 4 (fun t => { t with a := 0x00#8, flags := 0x56#8 }) = true := by decide

theorem test_sbb_00_FF_1 : gives (alu 0x00#8 0xFF#8 0x03#8) [0x98#8] 1 4 (fun t => { t with a := 0x00#8, flags := 0x47#8 }) = true := by decide

theorem test_sbb_F0_0F_1 : gives (alu 0xF0#8 0x0F#8 0x03#8) [0x98#8] 1 4 (fun t => { t with a := 0xE0#8, flags := 0x82#8 }) = true := by decide

theorem test_ana_FF_FF_1 : gives (alu 0xFF#8 0xFF#8 0x03#8) [0xA0#8] 1 4 (fun t => { t with a := 0xFF#8, flags := 0x86#8 }) = true := by decide

theorem test_xra_3C_3C_1 : gives (alu 0x3C#8 0x3C#8 0x03#8) [0xA8#8] 1 4 (fun t => { t with a := 0x00#8, flags := 0x46#8 }) = true := by decide

theorem test_ora_F0_0F_1 : gives (alu 0xF0#8 0x0F#8 0x03#8) [0xB0#8] 1 4 (fun t => { t with a := 0xFF#8, flags := 0x86#8 }) = true := by decide

theorem test_cmp_00_01_0 : gives (alu 0x00#8 0x01#8 0x02#8) [0xB8#8] 1 4 (fun t => { t with a := 0x00#8, flags := 0x87#8 }) = true := by decide

theorem test_cmp_3C_3C_1 : gives (alu 0x3C#8 0x3C#8 0x03#8) [0xB8#8] 1 4 (fun t => { t with a := 0x3C#8, flags := 0x56#8 }) = true := by decide

theorem test_adi : gives (alu 0x3A#8 0x00#8 0x03#8) [0xC6#8, 0x0F#8] 2 7 (fun t => { t with a := 0x49#8, flags := 0x12#8 }) = true := by decide

theorem test_aci : gives (alu 0x3A#8 0x00#8 0x03#8) [0xCE#8, 0x0F#8] 2 7 (fun t => { t with a := 0x4A#8, flags := 0x12#8 }) = true := by decide

theorem test_sui : gives (alu 0x3A#8 0x00#8 0x03#8) [0xD6#8, 0x0F#8] 2 7 (fun t => { t with a := 0x2B#8, flags := 0x06#8 }) = true := by decide

theorem test_sbi : gives (alu 0x3A#8 0x00#8 0x03#8) [0xDE#8, 0x0F#8] 2 7 (fun t => { t with a := 0x2A#8, flags := 0x02#8 }) = true := by decide

theorem test_ani : gives (alu 0x3A#8 0x00#8 0x03#8) [0xE6#8, 0x0F#8] 2 7 (fun t => { t with a := 0x0A#8, flags := 0x06#8 }) = true := by decide

theorem test_xri : gives (alu 0x3A#8 0x00#8 0x03#8) [0xEE#8, 0x0F#8] 2 7 (fun t => { t with a := 0x35#8, flags := 0x06#8 }) = true := by decide

theorem test_ori : gives (alu 0x3A#8 0x00#8 0x03#8) [0xF6#8, 0x0F#8] 2 7 (fun t => { t with a := 0x3F#8, flags := 0x06#8 }) = true := by decide

theorem test_cpi : gives (alu 0x3A#8 0x00#8 0x03#8) [0xFE#8, 0x0F#8] 2 7 (fun t => { t with a := 0x3A#8, flags := 0x06#8 }) = true := by decide

theorem test_inr_B_wraps : gives (alu 0x00#8 0xFF#8 0x03#8) [0x04#8] 1 5 (fun t => { t with b := 0x00#8, flags := 0x57#8 }) = true := by decide

theorem test_inr_M : gives v10 [0x34#8] 1 10 (fun t => { ((t).memWrite 0x2010#16 0x9A#8) with flags := 0x87#8 }) = true := by decide

theorem test_dcr_B_borrows : gives (alu 0x00#8 0x00#8 0x02#8) [0x05#8] 1 5 (fun t => { t with b := 0xFF#8, flags := 0x86#8 }) = true := by decide

theorem test_dcr_M : gives v10 [0x35#8] 1 10 (fun t => { ((t).memWrite 0x2010#16 0x98#8) with flags := 0x93#8 }) = true := by decide

theorem test_inx_SP_wraps : gives { State.reset with sp := 0xFFFF#16, flags := 0xD7#8 } [0x33#8] 1 5 (fun t => { t with sp := 0x0000#16 }) = true := by decide

theorem test_inx_HL_carries : gives { State.reset with h := 0x00#8, l := 0xFF#8, flags := 0xD7#8 } [0x23#8] 1 5 (fun t => { t with h := 0x01#8, l := 0x00#8 }) = true := by decide

theorem test_dcx_BC_wraps : gives { State.reset with flags := 0xD7#8 } [0x0B#8] 1 5 (fun t => { t with b := 0xFF#8, c := 0xFF#8 }) = true := by decide

theorem test_dad_BC_zero_keeps_Z : gives { State.reset with flags := 0xD7#8 } [0x09#8] 1 10 (fun t => { t with flags := 0xD6#8 }) = true := by decide

theorem test_dad_HL_itself : gives { State.reset with h := 0x80#8, l := 0x01#8 } [0x29#8] 1 10 (fun t => { t with h := 0x00#8, l := 0x02#8, flags := 0x03#8 }) = true := by decide

theorem test_daa_third_condition : gives (alu 0x9A#8 0x00#8 0x02#8) [0x27#8] 1 4 (fun t => { t with a := 0x00#8, flags := 0x57#8 }) = true := by decide

theorem test_daa_99_AC : gives (alu 0x99#8 0x00#8 0x12#8) [0x27#8] 1 4 (fun t => { t with a := 0x9F#8, flags := 0x86#8 }) = true := by decide

theorem test_rlc : gives (alu 0xA5#8 0x00#8 0xD6#8) [0x07#8] 1 4 (fun t => { t with a := 0x4B#8, flags := 0xD7#8 }) = true := by decide

theorem test_rrc : gives (alu 0xA5#8 0x00#8 0xD6#8) [0x0F#8] 1 4 (fun t => { t with a := 0xD2#8, flags := 0xD7#8 }) = true := by decide

theorem test_ral : gives (alu 0xA5#8 0x00#8 0xD6#8) [0x17#8] 1 4 (fun t => { t with a := 0x4A#8, flags := 0xD7#8 }) = true := by decide

theorem test_rar : gives (alu 0xA5#8 0x00#8 0xD6#8) [0x1F#8] 1 4 (fun t => { t with a := 0x52#8, flags := 0xD7#8 }) = true := by decide

theorem test_cma : gives (alu 0x00#8 0x00#8 0xD7#8) [0x2F#8] 1 4 (fun t => { t with a := 0xFF#8 }) = true := by decide

theorem test_stc : gives (alu 0x51#8 0x00#8 0x02#8) [0x37#8] 1 4 (fun t => { t with flags := 0x03#8 }) = true := by decide

theorem test_cmc : gives (alu 0x00#8 0x00#8 0xD7#8) [0x3F#8] 1 4 (fun t => { t with flags := 0xD6#8 }) = true := by decide

/-! ### Control transfer: table V40 -/

/-- The start state of table V40 with a flags byte. -/
def v40 (flags : Byte) : State :=
  { State.reset with flags := flags, sp := 0xF000#16, pc := 0x0100#16, mem := [(0xF000, 0x34#8), (0xF001, 0x12#8)] }

/-- What a taken call of 0x0200 from 0x0100 changes (table V40). -/
def called (t : State) : State :=
  ({ t with pc := 0x0200#16, sp := 0xEFFE#16 }.memWrite 0xEFFF#16 0x01#8).memWrite 0xEFFE#16 0x03#8

theorem test_jmp : gives (v40 0x02#8) [0xC3#8, 0x00#8, 0x02#8] 3 10 (fun t => { t with pc := 0x0200#16 }) = true := by decide

theorem test_pchl : gives v10 [0xE9#8] 1 5 (fun t => { t with pc := 0x2010#16 }) = true := by decide

theorem test_call : gives (v40 0x02#8) [0xCD#8, 0x00#8, 0x02#8] 3 17 (fun t => called t) = true := by decide

theorem test_ret : gives (v40 0x02#8) [0xC9#8] 1 10 (fun t => { t with pc := 0x1234#16, sp := 0xF002#16 }) = true := by decide

theorem test_rst_5 : gives { State.reset with sp := 0xF000#16, pc := 0x0100#16 } [0xEF#8] 1 11 (fun t => (((({ t with pc := 0x0028#16, sp := 0xEFFE#16 }).memWrite 0xEFFF#16 0x01#8)).memWrite 0xEFFE#16 0x01#8)) = true := by decide

theorem test_jnz_taken : gives (v40 0x83#8) [0xC2#8, 0x00#8, 0x02#8] 3 10 (fun t => { t with pc := 0x0200#16 }) = true := by decide

theorem test_cnz_taken : gives (v40 0x83#8) [0xC4#8, 0x00#8, 0x02#8] 3 17 (fun t => called t) = true := by decide

theorem test_rnz_taken : gives (v40 0x83#8) [0xC0#8] 1 11 (fun t => { t with pc := 0x1234#16, sp := 0xF002#16 }) = true := by decide

theorem test_jnz_not_taken : gives (v40 0x46#8) [0xC2#8, 0x00#8, 0x02#8] 3 10 (fun t => t) = true := by decide

theorem test_cnz_not_taken : gives (v40 0x46#8) [0xC4#8, 0x00#8, 0x02#8] 3 11 (fun t => t) = true := by decide

theorem test_rnz_not_taken : gives (v40 0x46#8) [0xC0#8] 1 5 (fun t => t) = true := by decide

theorem test_jz_not_taken : gives (v40 0x83#8) [0xCA#8, 0x00#8, 0x02#8] 3 10 (fun t => t) = true := by decide

theorem test_cz_not_taken : gives (v40 0x83#8) [0xCC#8, 0x00#8, 0x02#8] 3 11 (fun t => t) = true := by decide

theorem test_rz_not_taken : gives (v40 0x83#8) [0xC8#8] 1 5 (fun t => t) = true := by decide

theorem test_jz_taken : gives (v40 0x46#8) [0xCA#8, 0x00#8, 0x02#8] 3 10 (fun t => { t with pc := 0x0200#16 }) = true := by decide

theorem test_cz_taken : gives (v40 0x46#8) [0xCC#8, 0x00#8, 0x02#8] 3 17 (fun t => called t) = true := by decide

theorem test_rz_taken : gives (v40 0x46#8) [0xC8#8] 1 11 (fun t => { t with pc := 0x1234#16, sp := 0xF002#16 }) = true := by decide

theorem test_jnc_not_taken : gives (v40 0x83#8) [0xD2#8, 0x00#8, 0x02#8] 3 10 (fun t => t) = true := by decide

theorem test_cnc_not_taken : gives (v40 0x83#8) [0xD4#8, 0x00#8, 0x02#8] 3 11 (fun t => t) = true := by decide

theorem test_rnc_not_taken : gives (v40 0x83#8) [0xD0#8] 1 5 (fun t => t) = true := by decide

theorem test_jnc_taken : gives (v40 0x46#8) [0xD2#8, 0x00#8, 0x02#8] 3 10 (fun t => { t with pc := 0x0200#16 }) = true := by decide

theorem test_cnc_taken : gives (v40 0x46#8) [0xD4#8, 0x00#8, 0x02#8] 3 17 (fun t => called t) = true := by decide

theorem test_rnc_taken : gives (v40 0x46#8) [0xD0#8] 1 11 (fun t => { t with pc := 0x1234#16, sp := 0xF002#16 }) = true := by decide

theorem test_jc_taken : gives (v40 0x83#8) [0xDA#8, 0x00#8, 0x02#8] 3 10 (fun t => { t with pc := 0x0200#16 }) = true := by decide

theorem test_cc_taken : gives (v40 0x83#8) [0xDC#8, 0x00#8, 0x02#8] 3 17 (fun t => called t) = true := by decide

theorem test_rc_taken : gives (v40 0x83#8) [0xD8#8] 1 11 (fun t => { t with pc := 0x1234#16, sp := 0xF002#16 }) = true := by decide

theorem test_jc_not_taken : gives (v40 0x46#8) [0xDA#8, 0x00#8, 0x02#8] 3 10 (fun t => t) = true := by decide

theorem test_cc_not_taken : gives (v40 0x46#8) [0xDC#8, 0x00#8, 0x02#8] 3 11 (fun t => t) = true := by decide

theorem test_rc_not_taken : gives (v40 0x46#8) [0xD8#8] 1 5 (fun t => t) = true := by decide

theorem test_jpo_taken : gives (v40 0x83#8) [0xE2#8, 0x00#8, 0x02#8] 3 10 (fun t => { t with pc := 0x0200#16 }) = true := by decide

theorem test_cpo_taken : gives (v40 0x83#8) [0xE4#8, 0x00#8, 0x02#8] 3 17 (fun t => called t) = true := by decide

theorem test_rpo_taken : gives (v40 0x83#8) [0xE0#8] 1 11 (fun t => { t with pc := 0x1234#16, sp := 0xF002#16 }) = true := by decide

theorem test_jpo_not_taken : gives (v40 0x46#8) [0xE2#8, 0x00#8, 0x02#8] 3 10 (fun t => t) = true := by decide

theorem test_cpo_not_taken : gives (v40 0x46#8) [0xE4#8, 0x00#8, 0x02#8] 3 11 (fun t => t) = true := by decide

theorem test_rpo_not_taken : gives (v40 0x46#8) [0xE0#8] 1 5 (fun t => t) = true := by decide

theorem test_jpe_not_taken : gives (v40 0x83#8) [0xEA#8, 0x00#8, 0x02#8] 3 10 (fun t => t) = true := by decide

theorem test_cpe_not_taken : gives (v40 0x83#8) [0xEC#8, 0x00#8, 0x02#8] 3 11 (fun t => t) = true := by decide

theorem test_rpe_not_taken : gives (v40 0x83#8) [0xE8#8] 1 5 (fun t => t) = true := by decide

theorem test_jpe_taken : gives (v40 0x46#8) [0xEA#8, 0x00#8, 0x02#8] 3 10 (fun t => { t with pc := 0x0200#16 }) = true := by decide

theorem test_cpe_taken : gives (v40 0x46#8) [0xEC#8, 0x00#8, 0x02#8] 3 17 (fun t => called t) = true := by decide

theorem test_rpe_taken : gives (v40 0x46#8) [0xE8#8] 1 11 (fun t => { t with pc := 0x1234#16, sp := 0xF002#16 }) = true := by decide

theorem test_jp_not_taken : gives (v40 0x83#8) [0xF2#8, 0x00#8, 0x02#8] 3 10 (fun t => t) = true := by decide

theorem test_cp_not_taken : gives (v40 0x83#8) [0xF4#8, 0x00#8, 0x02#8] 3 11 (fun t => t) = true := by decide

theorem test_rp_not_taken : gives (v40 0x83#8) [0xF0#8] 1 5 (fun t => t) = true := by decide

theorem test_jp_taken : gives (v40 0x46#8) [0xF2#8, 0x00#8, 0x02#8] 3 10 (fun t => { t with pc := 0x0200#16 }) = true := by decide

theorem test_cp_taken : gives (v40 0x46#8) [0xF4#8, 0x00#8, 0x02#8] 3 17 (fun t => called t) = true := by decide

theorem test_rp_taken : gives (v40 0x46#8) [0xF0#8] 1 11 (fun t => { t with pc := 0x1234#16, sp := 0xF002#16 }) = true := by decide

theorem test_jm_taken : gives (v40 0x83#8) [0xFA#8, 0x00#8, 0x02#8] 3 10 (fun t => { t with pc := 0x0200#16 }) = true := by decide

theorem test_cm_taken : gives (v40 0x83#8) [0xFC#8, 0x00#8, 0x02#8] 3 17 (fun t => called t) = true := by decide

theorem test_rm_taken : gives (v40 0x83#8) [0xF8#8] 1 11 (fun t => { t with pc := 0x1234#16, sp := 0xF002#16 }) = true := by decide

theorem test_jm_not_taken : gives (v40 0x46#8) [0xFA#8, 0x00#8, 0x02#8] 3 10 (fun t => t) = true := by decide

theorem test_cm_not_taken : gives (v40 0x46#8) [0xFC#8, 0x00#8, 0x02#8] 3 11 (fun t => t) = true := by decide

theorem test_rm_not_taken : gives (v40 0x46#8) [0xF8#8] 1 5 (fun t => t) = true := by decide

/-! ### Wrap-around: table V41 -/

theorem test_jmp_across_the_top : gives { State.reset with pc := 0xFFFF#16 } [0xC3#8, 0x34#8, 0x12#8] 3 10 (fun t => { t with pc := 0x1234#16 }) = true := by decide

theorem test_shld_over_its_own_bytes : gives { State.reset with h := 0xAA#8, l := 0xBB#8, pc := 0xFFFE#16 } [0x22#8, 0xFF#8, 0xFF#8] 3 16 (fun t => ((((t).memWrite 0xFFFF#16 0xBB#8)).memWrite 0x0000#16 0xAA#8)) = true := by decide

theorem test_push_BC_wraps : gives { State.reset with b := 0xAB#8, c := 0xCD#8, sp := 0x0001#16, pc := 0x0100#16 } [0xC5#8] 1 11 (fun t => (((({ t with sp := 0xFFFF#16 }).memWrite 0x0000#16 0xAB#8)).memWrite 0xFFFF#16 0xCD#8)) = true := by decide

theorem test_pop_DE_wraps : gives (((({ State.reset with sp := 0xFFFF#16, pc := 0x0100#16 }).memWrite 0xFFFF#16 0x11#8)).memWrite 0x0000#16 0x22#8) [0xD1#8] 1 10 (fun t => { t with e := 0x11#8, d := 0x22#8, sp := 0x0001#16 }) = true := by decide

/-! ### Stack, input and output, control: tables V43, V50 and V51 -/

theorem test_push_BC : gives v10 [0xC5#8] 1 11 (fun t => (((({ t with sp := 0xEFFE#16 }).memWrite 0xEFFF#16 0x22#8)).memWrite 0xEFFE#16 0x33#8)) = true := by decide

theorem test_pushPsw : gives v10 [0xF5#8] 1 11 (fun t => (((({ t with sp := 0xEFFE#16 }).memWrite 0xEFFF#16 0x11#8)).memWrite 0xEFFE#16 0xD7#8)) = true := by decide

/-- Vector V5: the pushed flags byte is masked also where FLAGS holds 0xFF. -/
theorem test_pushPsw_masks : gives { v10 with flags := 0xFF#8 } [0xF5#8] 1 11 (fun t => (((({ t with sp := 0xEFFE#16 }).memWrite 0xEFFF#16 0x11#8)).memWrite 0xEFFE#16 0xD7#8)) = true := by decide

theorem test_pop_HL : gives ((((v10).memWrite 0xF000#16 0xFF#8)).memWrite 0xF001#16 0x5A#8) [0xE1#8] 1 10 (fun t => { t with l := 0xFF#8, h := 0x5A#8, sp := 0xF002#16 }) = true := by decide

theorem test_popPsw_masks : gives ((((v10).memWrite 0xF000#16 0xFF#8)).memWrite 0xF001#16 0x5A#8) [0xF1#8] 1 10 (fun t => { t with a := 0x5A#8, flags := 0xD7#8, sp := 0xF002#16 }) = true := by decide

theorem test_popPsw_sets_bit_1 : gives ((v10).memWrite 0xF001#16 0x5A#8) [0xF1#8] 1 10 (fun t => { t with a := 0x5A#8, flags := 0x02#8, sp := 0xF002#16 }) = true := by decide

theorem test_xthl : gives ((((v10).memWrite 0xF000#16 0xFF#8)).memWrite 0xF001#16 0x5A#8) [0xE3#8] 1 18 (fun t => (((({ t with l := 0xFF#8, h := 0x5A#8 }).memWrite 0xF000#16 0x10#8)).memWrite 0xF001#16 0x20#8)) = true := by decide

theorem test_sphl : gives v10 [0xF9#8] 1 5 (fun t => { t with sp := 0x2010#16 }) = true := by decide

theorem test_inPort_unbound : gives v10 [0xDB#8, 0x10#8] 2 10 (fun t => { t with a := 0xFF#8 }) = true := by decide

theorem test_inPort_timer_control : gives { v10 with tEnabled := true, tPending := true } [0xDB#8, 0x32#8] 2 10 (fun t => { t with a := 0x03#8 }) = true := by decide

theorem test_outPort_unbound : gives v10 [0xD3#8, 0x10#8] 2 10 (fun t => t) = true := by decide

/-- Table V51, step 6: the write arms the counter and the step itself is ticked. -/
theorem test_outPort_arms_and_ticks : gives { State.reset with tCounter := 0x0039#16, tReload := 0x0040#16, tEnabled := true, tPending := true } [0xD3#8, 0x31#8] 2 10 (fun t => { t with tCounter := 0x0036#16 }) = true := by decide

theorem test_ei : gives v10 [0xFB#8] 1 4 (fun t => { t with inte := true }) = true := by decide

theorem test_di : gives { v10 with inte := true } [0xF3#8] 1 4 (fun t => { t with inte := false }) = true := by decide

theorem test_hlt : gives v10 [0x76#8] 1 7 (fun t => { t with halted := true }) = true := by decide

theorem test_nop : gives v10 [0x00#8] 1 4 (fun t => t) = true := by decide

theorem test_nop08 : gives v10 [0x08#8] 1 4 (fun t => t) = true := by decide

theorem test_nop10 : gives v10 [0x10#8] 1 4 (fun t => t) = true := by decide

theorem test_nop18 : gives v10 [0x18#8] 1 4 (fun t => t) = true := by decide

theorem test_nop20 : gives v10 [0x20#8] 1 4 (fun t => t) = true := by decide

theorem test_nop28 : gives v10 [0x28#8] 1 4 (fun t => t) = true := by decide

theorem test_nop30 : gives v10 [0x30#8] 1 4 (fun t => t) = true := by decide

theorem test_nop38 : gives v10 [0x38#8] 1 4 (fun t => t) = true := by decide

/-! ### The timer: table V50 -/

/-- The timer after rows 1 to 3, 5 and 6 of table V50. -/
def v50 : State := { State.reset with tCounter := 0x1200#16, tReload := 0x1299#16, tEnabled := true }

theorem test_tick_counts_down : (v50.tick 0x11FF).tCounter = 0x0001#16 ∧ (v50.tick 0x11FF).tPending = false := by decide

theorem test_tick_expires_exactly : (v50.tick 0x1200).tCounter = 0x1299#16 ∧ (v50.tick 0x1200).tPending = true := by decide

theorem test_tick_disabled : (State.tick { v50 with tEnabled := false } 0x100).tCounter = 0x1200#16 := by decide

theorem test_tick_reload_zero : ({ State.reset with tEnabled := true }.tick 10) = { State.reset with tEnabled := true } := by decide

/-- Table V50, row 14: bit 1 clear keeps the pending bit. -/
theorem test_control_write_keeps_pending : (State.timerWriteCtl { v50 with tPending := true } 0xFD#8).tPending = true ∧
    (State.timerWriteCtl { v50 with tPending := true } 0x02#8).tPending = false := by decide

/-! ### Interrupt delivery and faults: tables V52 and V53, program P5 -/

/-- The first row of table V52: a HLT at PC is not fetched. -/
def due : State :=
  { State.reset with inte := true, tPending := true, pc := 0x1234#16, sp := 0xF000#16, mem := [(0x1234, 0x76#8)] }

theorem test_delivery : nextIs (step due) (fun t => t = (({ due with
    inte := false, tPending := false, sp := 0xEFFE#16, pc := 0x0038#16, cyclesTotal := 11 }.memWrite 0xEFFF#16
    0x12#8).memWrite 0xEFFE#16 0x34#8)) = true := by decide

/-- The last row of table V52: the delivery step's own tick can set the pending bit again. -/
theorem test_delivery_then_expiry : nextIs
    (step { due with tEnabled := true, tReload := 0x000B#16, tCounter := 0x000B#16 })
    (fun t => t.tPending && t.tCounter = 0x000B#16 && !t.inte) = true := by decide

theorem test_pending_without_enable_fetches : gives { due with inte := false } [0xFB#8] 1 4 (fun t => { t with inte := true }) = true := by
  decide

theorem test_illegalCB : faultOf v10 [0xCB#8] = some (.illegalOpcode 0xCB#8 0x0100#16) := by decide

theorem test_illegalD9 : faultOf v10 [0xD9#8] = some (.illegalOpcode 0xD9#8 0x0100#16) := by decide

theorem test_illegalDD : faultOf v10 [0xDD#8] = some (.illegalOpcode 0xDD#8 0x0100#16) := by decide

theorem test_illegalED : faultOf v10 [0xED#8] = some (.illegalOpcode 0xED#8 0x0100#16) := by decide

theorem test_illegalFD : faultOf v10 [0xFD#8] = some (.illegalOpcode 0xFD#8 0x0100#16) := by decide

theorem test_halted_machine_stops : faultOf { v10 with halted := true } [0x00#8] = some .halted := by decide

/-! ### The host (70_reset_and_hazards.md R353, R354) -/

theorem test_load_program_wraps : (State.reset.loadProgram [0x01#8, 0x02#8] 0xFFFF#16).mem = [(0x0000, 0x02#8), (0xFFFF, 0x01#8)] := by decide

theorem test_host_flags_are_normalised : (State.reset.hostSetFlags 0xFF#8).flags = 0xD7#8 := by decide

theorem test_host_psw_is_normalised : State.reset.hostSetPushPair .psw 0x12FF#16 =
    { State.reset with a := 0x12#8, flags := 0xD7#8 } := by decide

/-! ### Witnesses: for each statement with hypotheses, values that meet them together -/

/-- DecodeInvertsEncode. -/
theorem witness_decode_inverts_encode : (Instr.movRR .b .a).wf = true ∧ (Instr.stax .de).wf = true := by decide

/-- EncodeInvertsDecode. -/
theorem witness_encode_inverts_decode :
    decode [0x36#8, 0x5A#8, 0x76#8] = .ok (.mviM 0x5A#8, [0x76#8]) := rfl

/-- DecodeRejectsOnlyMissingBytes, each clause at the longest list that fails and the shortest that does not. -/
theorem witness_decode_lengths :
    ([0xC3#8, 0x00#8] : List Byte).length < lengthOf 0xC3#8 ∧ ([0x3E#8] : List Byte).length < lengthOf 0x3E#8 ∧
      lengthOf 0xC3#8 ≤ ([0xC3#8, 0x00#8, 0x00#8] : List Byte).length ∧
      lengthOf 0x3E#8 ≤ ([0x3E#8, 0x00#8] : List Byte).length ∧ lengthOf 0x00#8 ≤ ([0x00#8] : List Byte).length := by
  decide

/-- StepRunsDecodedInstruction. -/
theorem witness_step_runs : Fetching v10 ∧
    decode [v10.memRead v10.pc, v10.memRead (v10.pc + 1), v10.memRead (v10.pc + 2)] = .ok (.nop, [0x00#8, 0x00#8]) :=
  ⟨⟨rfl, rfl⟩, rfl⟩

/-- PcWrapsAcrossTheTop. -/
theorem witness_pc_wraps : Fetching { v10 with pc := 0xFFFF#16 } ∧ ({ v10 with pc := 0xFFFF#16 } : State).pc = 0xFFFF#16 :=
  ⟨⟨rfl, rfl⟩, rfl⟩

/-- StepDeliversInterrupt, and the interrupt clause of ReturnResumesTheCaller. -/
theorem witness_delivery : due.halted = false ∧ due.inte = true ∧ due.tPending = true ∧ due.interruptDue = true := by decide

/-- HaltedMachineHasNoStep, and the second clause of OnlyHltHalts. -/
theorem witness_halted : ({ v10 with halted := true } : State).halted = true := rfl

/-- IllegalOpcodeStops and StepStopsOnlyHaltedOrIllegal, at the first and the last of the five bytes. -/
theorem witness_illegal : Fetching (place v10 [0xCB#8]) ∧ Fetching (place v10 [0xFD#8]) ∧
    (place v10 [0xCB#8]).memRead 0x0100#16 ∈ [0xCB#8, 0xD9#8, 0xDD#8, 0xED#8, 0xFD#8] ∧
    (place v10 [0xFD#8]).memRead 0x0100#16 ∈ [0xCB#8, 0xD9#8, 0xDD#8, 0xED#8, 0xFD#8] :=
  ⟨⟨rfl, rfl⟩, ⟨rfl, rfl⟩, by decide, by decide⟩

/-- MovAndMviIntoRegister and MovAndMviIntoMemory, at the registers of the first and the last code. -/
theorem witness_physical : Reg.isPhysical .b = true ∧ Reg.isPhysical .a = true := by decide

/-- LdaAndLdaxLoadA and StaAndStaxStoreA, at both pairs. -/
theorem witness_indirect : RegPair.isIndirect .bc = true ∧ RegPair.isIndirect .de = true := by decide

/-- PushStoresBelowSp, PopLoadsFromSp and PushThenPopRestores, at the three pairs. -/
theorem witness_pairs : PushPair.isRegPair .bc = true ∧ PushPair.isRegPair .de = true ∧ PushPair.isRegPair .hl = true := by
  decide

/-- InxAndDcxChangeNoFlag and HostAccessorsAndBind: a pair that is not SP. -/
theorem witness_not_sp : RegPair.hl ≠ .sp := by decide

/-- ConditionalJumps, ConditionalCalls and ConditionalReturns: each flag clear in one state and set in the other. -/
theorem witness_conditions :
    ((v40 0x02#8).flags.getLsbD 6 = false ∧ (v40 0x02#8).flags.getLsbD 0 = false ∧ (v40 0x02#8).flags.getLsbD 2 = false ∧
      (v40 0x02#8).flags.getLsbD 7 = false) ∧
    ((v40 0xD7#8).flags.getLsbD 6 = true ∧ (v40 0xD7#8).flags.getLsbD 0 = true ∧ (v40 0xD7#8).flags.getLsbD 2 = true ∧
      (v40 0xD7#8).flags.getLsbD 7 = true) := by decide

/-- InReadsPort and OutWritesPort: the ports beside the timer's, unbound, and one of them bound. -/
theorem witness_ports :
    (¬ (0x2F#8 = 0x30#8 ∨ 0x2F#8 = 0x31#8 ∨ 0x2F#8 = 0x32#8) ∧ v10.boundTo 0x2F#8 = none) ∧
    (¬ (0x33#8 = 0x30#8 ∨ 0x33#8 = 0x31#8 ∨ 0x33#8 = 0x32#8) ∧ v10.boundTo 0x33#8 = none) ∧
    (v10.bind 0x33#8 7).boundTo 0x33#8 = some 7 ∧ (v10.bind 0x00#8 7).boundTo 0x00#8 = some 7 ∧
    (v10.bind 0xFF#8 7).boundTo 0xFF#8 = some 7 := by decide

/-- InReadsPort and OutWritesPort: a device other than the bound one. -/
theorem witness_other_device : (8 : Config.DeviceId) ≠ 7 := by decide

/-- A running state of a canonical machine with memory, a binding and a device state listed. -/
def ready : State := { v10 with ioTab := [(0x33, some 7)], devState := [(7, [0x5A#8])] }

/-- StepKeepsInvariant, and StepTakesFourToEighteenCycles: the next state exists. -/
theorem witness_invariant : Inv ready ∧ ∃ t, step ready = .next t :=
  ⟨⟨by unfold FlagsFixed; decide, by decide, by decide, by decide⟩, _, rfl⟩

/-- FlagsFixedBitsKept: an instruction that writes FLAGS, and POP PSW. -/
theorem witness_flags_fixed : FlagsFixed v10.flags ∧ (∃ t, exec (.add .b) v10 = .next t) ∧
    (∃ t, step v10 = .next t) ∧ ∃ t, exec .popPsw v10 = .next t :=
  ⟨by unfold FlagsFixed; decide, ⟨_, rfl⟩, ⟨_, rfl⟩, _, rfl⟩

/-- OnlyHltHalts: a step that halts and one that does not. -/
theorem witness_halting_step :
    nextIs (step (place v10 [0x76#8])) (fun t => t.halted) = true ∧ nextIs (step v10) (fun t => !t.halted) = true := by decide

/-- InteChangesOnlyByEiDiDelivery: one step of each kind that changes INTE. -/
theorem witness_inte_changes :
    nextIs (step due) (fun t => t.inte != due.inte) = true ∧
    nextIs (step (place v10 [0xFB#8])) (fun t => t.inte != v10.inte) = true ∧
    nextIs (step (place { v10 with inte := true } [0xF3#8])) (fun t => t.inte != true) = true := by decide

/-- TimerPortBindingIsIgnored. -/
theorem witness_timer_ports : ((0x30#8 : Byte) = 0x30#8 ∨ (0x30#8 : Byte) = 0x31#8 ∨ (0x30#8 : Byte) = 0x32#8) ∧
    ((0x32#8 : Byte) = 0x30#8 ∨ (0x32#8 : Byte) = 0x31#8 ∨ (0x32#8 : Byte) = 0x32#8) ∧
    ∃ t, step (place (v10.bind 0x30#8 7) [0xDB#8, 0x30#8]) = .next t := ⟨by decide, by decide, _, rfl⟩

/-- CanonicalMemoryIsUnique. -/
theorem witness_canonical : Memory.wf [(0x0000, 0x01#8), (0xFFFF, 0x02#8)] = true ∧
    ∀ x : Word, Sparse.get Memory.unlisted [(0x0000, 0x01#8), (0xFFFF, 0x02#8)] x.toNat =
      Sparse.get Memory.unlisted [(0x0000, 0x01#8), (0xFFFF, 0x02#8)] x.toNat := ⟨by decide, fun _ => rfl⟩

/-- PushThenPopRestores: the clause on FLAGS. -/
theorem witness_push_flags : FlagsFixed v10.flags := by unfold FlagsFixed; decide

/-- The machine right after reset with the timer enabled at a reload value and a counter. -/
def counting (reload counter : Word) : State :=
  { State.reset with tEnabled := true, tReload := reload, tCounter := counter }

/-- PendingIsSetOnlyByExpiry, first clause: a NOP of 4 cycles reaches a counter of 4 and not one of 5 (R325, `>=`). -/
theorem witness_pending_boundary :
    nextIs (step (counting 0x0032#16 0x0004#16)) (fun t => t.tPending && t.tCounter = 0x0032#16) = true ∧
    nextIs (step (counting 0x0032#16 0x0005#16)) (fun t => !t.tPending && t.tCounter = 0x0001#16) = true := by decide

/-- PendingIsSetOnlyByExpiry: a step that expires, and one that writes port 0x31 and expires at a reload value of 10. -/
theorem witness_expires :
    (∃ t, step (counting 0x0032#16 0x0004#16) = .next t ∧ Expires 4 (counting 0x0032#16 0x0004#16) t) ∧
    WritesPort 0x31#8 (place (counting 0x000A#16 0x0005#16) [0xD3#8, 0x31#8]) ∧
    nextIs (step (place (counting 0x000A#16 0x0005#16) [0xD3#8, 0x31#8])) (fun t => t.tPending) = true ∧
    nextIs (step (place (counting 0x000B#16 0x0005#16) [0xD3#8, 0x31#8])) (fun t => !t.tPending) = true := by
  refine ⟨⟨_, rfl, rfl, by decide, ?_, fun _ => by decide⟩, ⟨⟨rfl, rfl⟩, rfl, rfl⟩, by decide, by decide⟩
  rintro ⟨-, h, -⟩
  exact absurd h (by decide)

/-- PendingIsSetOnlyByExpiry, third clause: no expiry (the timer is disabled after each step), the bit cleared by a delivery and
by an acknowledging write, and kept by a NOP. -/
theorem witness_pending_cleared :
    nextIs (step due) (fun t => !t.tPending && !t.tEnabled) = true ∧ due.interruptDue = true ∧
    Acknowledges (place { State.reset with a := 0x02#8, tPending := true } [0xD3#8, 0x32#8]) ∧
    nextIs (step (place { State.reset with a := 0x02#8, tPending := true } [0xD3#8, 0x32#8]))
      (fun t => !t.tPending && !t.tEnabled) = true ∧
    nextIs (step { State.reset with tPending := true }) (fun t => t.tPending && !t.tEnabled) = true :=
  ⟨by decide, by decide, ⟨⟨⟨rfl, rfl⟩, rfl, rfl⟩, rfl⟩, by decide, by decide⟩

/-- TimerSettingsChangeOnlyByOut: a write of each of the three ports. -/
theorem witness_timer_settings :
    nextIs (step (place v10 [0xD3#8, 0x30#8])) (fun t => t.tReload != v10.tReload) = true ∧
    nextIs (step (place v10 [0xD3#8, 0x31#8])) (fun t => t.tReload != v10.tReload) = true ∧
    nextIs (step (place v10 [0xD3#8, 0x32#8])) (fun t => t.tEnabled != v10.tEnabled) = true := by decide

/-- EiTakesEffectAtOnce. -/
theorem witness_ei : Fetching (place { v10 with tPending := true } [0xFB#8]) ∧
    (place { v10 with tPending := true } [0xFB#8]).memRead 0x0100#16 = 0xFB#8 ∧
    (place { v10 with tPending := true } [0xFB#8]).tPending = true := ⟨⟨rfl, rfl⟩, by decide, rfl⟩

/-- LoadProgramPlacesBytes: a listed byte at each end, and an address outside, of a program across the top. -/
theorem witness_load_program : ([0x01#8, 0x02#8] : List Byte).length ≤ 65536 ∧
    ([0x01#8, 0x02#8] : List Byte)[0]? = some 0x01#8 ∧ ([0x01#8, 0x02#8] : List Byte)[1]? = some 0x02#8 ∧
    ∀ k, k < ([0x01#8, 0x02#8] : List Byte).length → (0x0001#16 : Word) ≠ 0xFFFF#16 + BitVec.ofNat 16 k :=
  ⟨by decide, rfl, rfl, by decide⟩

/-- HostAccessorsAndBind: a bit that is not the flag's, an address that is not HL, and a port that is not the bound one. -/
theorem witness_host : (3 : Nat) ≠ Flag.bit .s ∧ ¬ (Reg.m = .m ∧ (0x2011#16 : Word) = v10.hl) ∧
    ¬ (Reg.b = .m ∧ (0x2010#16 : Word) = v10.hl) ∧ (0x01#8 : Byte) ≠ 0x00#8 := by decide

/-- RunEndsOnlyAfterHlt: a run of no step, and a run whose last step executes the HLT it stands at after one NOP. -/
theorem witness_run : run 0 { v10 with halted := true } = .halted { v10 with halted := true } ∧
    (∃ t, run 2 (place v10 [0x00#8, 0x76#8]) = .halted t) ∧
    ∃ u, run 1 (place v10 [0x00#8, 0x76#8]) = .outOfSteps u ∧ u.pc = 0x0101#16 := ⟨rfl, ⟨_, rfl⟩, _, rfl, rfl⟩

end Sys2Proof.Tests
end

section
/-! What one instruction does to the run: which opcode bytes decode to an instruction that ends it (HLT and the five
illegal bytes), and that every other instruction completes in a running machine (00_scope.md R16, R17). -/

namespace Sys2Proof

/-- The opcode byte of an instruction after which the machine has no step: HLT and the five illegal instructions. -/
def Instr.stopByte : Instr → Option Byte
  | .hlt => some 0x76#8
  | .illegalCB => some 0xCB#8
  | .illegalD9 => some 0xD9#8
  | .illegalDD => some 0xDD#8
  | .illegalED => some 0xED#8
  | .illegalFD => some 0xFD#8
  | _ => none

/-! ### The blocks of the opcode map that hold no such byte -/

@[simp] theorem decodeMov_stopByte (dst src : Reg) : (decodeMov dst src).stopByte = none := by
  unfold decodeMov
  split_ifs <;> rfl

@[simp] theorem decodeAluReg_stopByte (ooo : BitVec 3) (src : Reg) : (decodeAluReg ooo src).stopByte = none := by
  unfold decodeAluReg
  split_ifs <;> rfl

@[simp] theorem decodeAluImm_stopByte (ooo : BitVec 3) (d8 : Byte) : (decodeAluImm ooo d8).stopByte = none := by
  unfold decodeAluImm
  split_ifs <;> rfl

@[simp] theorem decodeMvi_stopByte (dst : Reg) (d8 : Byte) : (decodeMvi dst d8).stopByte = none := by
  unfold decodeMvi
  split_ifs <;> rfl

@[simp] theorem decodePush_stopByte (p : PushPair) : (decodePush p).stopByte = none := by
  unfold decodePush
  split_ifs <;> rfl

@[simp] theorem decodePop_stopByte (p : PushPair) : (decodePop p).stopByte = none := by
  unfold decodePop
  split_ifs <;> rfl

@[simp] theorem decodeNopDup_stopByte (k : BitVec 3) : (decodeNopDup k).stopByte = none := by
  unfold decodeNopDup
  split_ifs <;> rfl

@[simp] theorem decodeJcc_stopByte (cnd : Cond) (addr : Word) : (decodeJcc cnd addr).stopByte = none := by
  cases cnd <;> rfl

@[simp] theorem decodeCcc_stopByte (cnd : Cond) (addr : Word) : (decodeCcc cnd addr).stopByte = none := by
  cases cnd <;> rfl

@[simp] theorem decodeRcc_stopByte (cnd : Cond) : (decodeRcc cnd).stopByte = none := by
  cases cnd <;> rfl

/-! ### The whole opcode map -/

theorem decodeOp_stopByte_operands (op b2 b3 : Byte) :
    (decodeOp op b2 b3).stopByte = (decodeOp op 0x00#8 0x00#8).stopByte := by
  simp only [decodeOp, decodeListed, apply_ite Instr.stopByte, decodeMov_stopByte, decodeAluReg_stopByte,
    decodeAluImm_stopByte, decodeMvi_stopByte, decodePush_stopByte, decodePop_stopByte, decodeNopDup_stopByte,
    decodeJcc_stopByte, decodeCcc_stopByte, decodeRcc_stopByte]
  rfl

/-- The instructions that end a run are those at six opcode bytes, whatever bytes follow (30_encoding.md R86, R90). -/
theorem decodeOp_stopByte (op b2 b3 : Byte) :
    (decodeOp op b2 b3).stopByte =
      if op ∈ [0x76#8, 0xCB#8, 0xD9#8, 0xDD#8, 0xED#8, 0xFD#8] then some op else none := by
  have h : ∀ op : Byte, (decodeOp op 0x00#8 0x00#8).stopByte =
      if op ∈ [0x76#8, 0xCB#8, 0xD9#8, 0xDD#8, 0xED#8, 0xFD#8] then some op else none := by decide +kernel
  rw [decodeOp_stopByte_operands, h op]

end Sys2Proof

namespace Sys2Proof.Machine

variable (s : State)

/-! ### The instruction -/

@[simp] theorem State.jumpIf_halted (cnd : Cond) (x : Word) : (s.jumpIf cnd x).halted = s.halted := by
  simp [State.jumpIf, apply_ite State.halted]

@[simp] theorem State.callIf_halted (cnd : Cond) (x : Word) : (s.callIf cnd x).halted = s.halted := by
  simp [State.callIf, apply_ite State.halted]

@[simp] theorem State.returnIf_halted (cnd : Cond) : (s.returnIf cnd).halted = s.halted := by
  simp [State.returnIf, apply_ite State.halted]

/-- Every instruction but HLT and the illegal ones completes, and keeps HALTED. -/
theorem exec_of_stopByte_none {i : Instr} (h : i.stopByte = none) : ∃ t, exec i s = .next t ∧ t.halted = s.halted := by
  cases i
  case hlt | illegalCB | illegalD9 | illegalDD | illegalED | illegalFD => cases h
  all_goals exact ⟨_, rfl, by simp⟩

theorem exec_hlt : ∃ t, exec .hlt s = .next t ∧ t.halted = true := ⟨_, rfl, by simp⟩

/-- An instruction of one of the five illegal bytes stops with that byte and the address it was fetched from (R310). -/
theorem exec_of_stopByte_illegal {i : Instr} {op : Byte} (h : i.stopByte = some op) (hne : op ≠ 0x76#8) :
    exec i s = .fault (.illegalOpcode op s.pc) := by
  cases i
  case hlt => exact absurd (Option.some.inj h).symm hne
  case illegalCB | illegalD9 | illegalDD | illegalED | illegalFD => cases h; rfl
  all_goals cases h

/-! ### The step -/

theorem step_of_halted {s : State} (h : s.halted = true) : step s = .fault .halted := by
  simp [step, h, haltedStop]

theorem step_of_interruptDue {s : State} (h : s.halted = false) (hdue : s.interruptDue = true) :
    step s = .next s.deliveryStep := by
  simp [step, h, hdue]

theorem step_of_fetching {s : State} (h : Fetching s) : step s = exec s.fetchInstr s := by
  simp [step, h.1, h.2]

@[simp] theorem State.deliveryStep_halted : s.deliveryStep.halted = s.halted := by
  simp [State.deliveryStep]

theorem fetchInstr_of_memRead_hlt {s : State} (h : s.memRead s.pc = 0x76#8) : s.fetchInstr = .hlt := by
  rw [State.fetchInstr, h]
  rfl

theorem State.halted_or_due_or_fetching : s.halted = true ∨ (s.halted = false ∧ s.interruptDue = true) ∨ Fetching s := by
  by_cases hh : s.halted = true
  · exact .inl hh
  · by_cases hi : s.interruptDue = true
    · exact .inr (.inl ⟨Bool.eq_false_iff.mpr hh, hi⟩)
    · exact .inr (.inr ⟨Bool.eq_false_iff.mpr hh, Bool.eq_false_iff.mpr hi⟩)

/-- What the instruction at PC does: it leaves the machine running, or it is HLT (R275), or it is one of the five illegal
bytes (R310). -/
theorem step_cases_of_fetching {s : State} (h : Fetching s) :
    (s.memRead s.pc ∉ [0x76#8, 0xCB#8, 0xD9#8, 0xDD#8, 0xED#8, 0xFD#8] ∧ ∃ t, step s = .next t ∧ t.halted = false) ∨
    (s.memRead s.pc = 0x76#8 ∧ ∃ t, step s = .next t ∧ t.halted = true) ∨
    (s.memRead s.pc ∈ [0xCB#8, 0xD9#8, 0xDD#8, 0xED#8, 0xFD#8] ∧
      step s = .fault (.illegalOpcode (s.memRead s.pc) s.pc)) := by
  rw [step_of_fetching h]
  have hstop : s.fetchInstr.stopByte = _ := decodeOp_stopByte _ _ _
  split_ifs at hstop with hbyte
  · obtain hhlt | hill := List.mem_cons.mp hbyte
    · rw [fetchInstr_of_memRead_hlt hhlt]
      exact .inr (.inl ⟨hhlt, exec_hlt s⟩)
    · have hne : s.memRead s.pc ≠ 0x76#8 := fun heq => absurd (heq ▸ hill) (by decide)
      exact .inr (.inr ⟨hill, exec_of_stopByte_illegal s hstop hne⟩)
  · obtain ⟨t, ht, hhalted⟩ := exec_of_stopByte_none s hstop
    exact .inl ⟨hbyte, t, ht, hhalted.trans h.1⟩

/-- A step that ends halted executed HLT. -/
theorem memRead_hlt_of_step_halted {s t : State} (hstep : step s = .next t) (ht : t.halted = true) :
    Fetching s ∧ s.memRead s.pc = 0x76#8 := by
  obtain hhalted | ⟨hrun, hdue⟩ | hfetch := s.halted_or_due_or_fetching
  · cases (step_of_halted hhalted).symm.trans hstep
  · cases (step_of_interruptDue hrun hdue).symm.trans hstep
    simp [hrun] at ht
  · obtain ⟨-, u, hu, hrun⟩ | ⟨hhlt, -⟩ | ⟨-, hfault⟩ := step_cases_of_fetching hfetch
    · cases hu.symm.trans hstep
      simp [hrun] at ht
    · exact ⟨hfetch, hhlt⟩
    · cases hfault.symm.trans hstep

/-- Settles O11, by what the step is from a halted state, when an interrupt is due, and at a fetched instruction. -/
theorem stepStopsOnlyHaltedOrIllegal : Obligations.StepStopsOnlyHaltedOrIllegal := by
  intro s
  obtain hhalted | ⟨hrun, hdue⟩ | hfetch := s.halted_or_due_or_fetching
  · exact .inr (.inl ⟨hhalted, step_of_halted hhalted⟩)
  · exact .inl ⟨_, step_of_interruptDue hrun hdue⟩
  · obtain ⟨-, t, ht, -⟩ | ⟨-, t, ht, -⟩ | ⟨hill, hfault⟩ := step_cases_of_fetching hfetch
    · exact .inl ⟨t, ht⟩
    · exact .inl ⟨t, ht⟩
    · exact .inr (.inr ⟨hfetch, hill, hfault⟩)

end Sys2Proof.Machine
end

section
/-! What a run does, step by step, and how it can end halted (60_exceptions.md R341). -/

namespace Sys2Proof.Machine

theorem run_of_halted {s : State} (h : s.halted = true) (n : Nat) : run n s = .halted s := by
  cases n <;> simp [run, h]

theorem run_zero_of_running {s : State} (h : s.halted = false) : run 0 s = .outOfSteps s := by
  simp [run, h]

theorem run_succ_of_next {s t : State} (h : s.halted = false) (hstep : step s = .next t) (n : Nat) :
    run (n + 1) s = run n t := by
  simp [run, h, hstep]

/-- A run that ends halted from a running state has a first step, and the rest of the run ends the same. -/
theorem exists_step_of_run_halted {n : Nat} {s t : State} (hrun : s.halted = false) (h : run n s = .halted t) :
    ∃ m u, n = m + 1 ∧ step s = .next u ∧ run m u = .halted t := by
  cases n with
  | zero => cases (run_zero_of_running hrun).symm.trans h
  | succ m =>
    cases hstep : step s with
    | next u => exact ⟨m, u, rfl, rfl, (run_succ_of_next hrun hstep m).symm.trans h⟩
    | fault f => simp [run, hrun, hstep] at h
    | refused r => simp [run, hrun, hstep] at h

/-- Induction along a run that ends halted: at its end, and from the state after a step to the state before it. -/
theorem run_halted_induction {t : State} {motive : ∀ n s, run n s = .halted t → Prop}
    (ended : ∀ n (hend : t.halted = true), motive n t (run_of_halted hend n))
    (stepped : ∀ n s u (hrun : s.halted = false) (hstep : step s = .next u) (h : run n u = .halted t),
      motive n u h → motive (n + 1) s ((run_succ_of_next hrun hstep n).trans h))
    (n : Nat) (s : State) (h : run n s = .halted t) : motive n s h := by
  induction n using Nat.strong_induction_on generalizing s with
  | _ n ih =>
    by_cases hhalted : s.halted = true
    · cases (run_of_halted hhalted n).symm.trans h
      exact ended n hhalted
    · have hrun : s.halted = false := Bool.eq_false_iff.mpr hhalted
      obtain ⟨m, u, rfl, hstep, hrest⟩ := exists_step_of_run_halted hrun h
      exact stepped m s u hrun hstep hrest (ih m (Nat.lt_succ_self m) u hrest)

theorem halted_of_run_halted {n : Nat} {s t : State} (h : run n s = .halted t) : t.halted = true := by
  induction n, s, h using run_halted_induction with
  | ended _ hend => exact hend
  | stepped _ _ _ _ _ _ ih => exact ih

/-- A longer cap changes nothing once a run ends halted. -/
theorem run_add_of_run_halted {n : Nat} {s t : State} (h : run n s = .halted t) (m : Nat) : run (n + m) s = .halted t := by
  induction n, s, h using run_halted_induction with
  | ended n hend => exact run_of_halted hend (n + m)
  | stepped n s u hrun hstep _ ih =>
    rw [Nat.add_right_comm, run_succ_of_next hrun hstep]
    exact ih

/-- A run that ends halted took no step, or the step after some `k` of them was its last and gave its end. -/
theorem exists_last_step_of_run_halted {n : Nat} {s t : State} (h : run n s = .halted t) :
    (s.halted = true ∧ t = s) ∨ ∃ k u, k < n ∧ run k s = .outOfSteps u ∧ step u = .next t := by
  induction n, s, h using run_halted_induction with
  | ended _ hend => exact .inl ⟨hend, rfl⟩
  | stepped n s u hrun hstep _ ih =>
    obtain ⟨-, rfl⟩ | ⟨k, v, hk, hv, hlast⟩ := ih
    · exact .inr ⟨0, s, Nat.succ_pos n, run_zero_of_running hrun, hstep⟩
    · exact .inr ⟨k + 1, v, Nat.succ_lt_succ hk, (run_succ_of_next hrun hstep k).trans hv, hlast⟩

/-- Settles O60, by induction along the run: its last step gave a halted state, so it executed HLT. -/
theorem runEndsOnlyAfterHlt : Obligations.RunEndsOnlyAfterHlt := by
  intro n s t h
  have hend : t.halted = true := halted_of_run_halted h
  refine ⟨hend, ?_, run_add_of_run_halted h⟩
  obtain hstart | ⟨k, u, hk, hu, hlast⟩ := exists_last_step_of_run_halted h
  · exact .inl hstart
  · obtain ⟨hfetch, hhlt⟩ := memRead_hlt_of_step_halted hlast hend
    exact .inr ⟨k, u, hk, hu, hfetch, hhlt, hlast⟩

end Sys2Proof.Machine
end

section
/-! The step in two cases, and what each of them does to the parts of the state that 10_state.md states invariants about:
FLAGS, INTE, HALTED and the three tables MEM, IOTAB and DEVSTATE. -/

namespace Sys2Proof.Machine

variable {s t : State}

/-- A step that answers a next state delivered the interrupt that was due, or executed the instruction at PC (R300). -/
theorem step_next_cases (h : step s = .next t) :
    (s.halted = false ∧ s.interruptDue = true ∧ t = s.deliveryStep) ∨ (Fetching s ∧ exec s.fetchInstr s = .next t) := by
  obtain hhalted | ⟨hrun, hdue⟩ | hfetch := s.halted_or_due_or_fetching
  · cases (step_of_halted hhalted).symm.trans h
  · cases (step_of_interruptDue hrun hdue).symm.trans h
    exact .inl ⟨hrun, hdue, rfl⟩
  · exact .inr ⟨hfetch, (step_of_fetching hfetch).symm.trans h⟩

/-- A predicate kept by the delivery of an interrupt and by every instruction is kept by every step. -/
theorem step_keeps {P : State → Prop} (hdeliver : ∀ s, P s → P s.deliveryStep)
    (hexec : ∀ i s t, P s → exec i s = .next t → P t) (hs : P s) (hstep : step s = .next t) : P t := by
  obtain ⟨-, -, rfl⟩ | ⟨-, hrun⟩ := step_next_cases hstep
  · exact hdeliver s hs
  · exact hexec s.fetchInstr s t hs hrun

/-! ### The conditional transfers -/

section
variable (s : State) (cnd : Cond) (x : Word)

@[simp] theorem State.jumpIf_flags : (s.jumpIf cnd x).flags = s.flags := by simp [State.jumpIf, apply_ite State.flags]
@[simp] theorem State.jumpIf_inte : (s.jumpIf cnd x).inte = s.inte := by simp [State.jumpIf, apply_ite State.inte]
@[simp] theorem State.jumpIf_mem : (s.jumpIf cnd x).mem = s.mem := by simp [State.jumpIf, apply_ite State.mem]
@[simp] theorem State.jumpIf_ioTab : (s.jumpIf cnd x).ioTab = s.ioTab := by simp [State.jumpIf, apply_ite State.ioTab]
@[simp] theorem State.jumpIf_devState : (s.jumpIf cnd x).devState = s.devState := by
  simp [State.jumpIf, apply_ite State.devState]

@[simp] theorem State.callIf_flags : (s.callIf cnd x).flags = s.flags := by simp [State.callIf, apply_ite State.flags]
@[simp] theorem State.callIf_inte : (s.callIf cnd x).inte = s.inte := by simp [State.callIf, apply_ite State.inte]
@[simp] theorem State.callIf_ioTab : (s.callIf cnd x).ioTab = s.ioTab := by simp [State.callIf, apply_ite State.ioTab]
@[simp] theorem State.callIf_devState : (s.callIf cnd x).devState = s.devState := by
  simp [State.callIf, apply_ite State.devState]

@[simp] theorem State.returnIf_flags : (s.returnIf cnd).flags = s.flags := by simp [State.returnIf, apply_ite State.flags]
@[simp] theorem State.returnIf_inte : (s.returnIf cnd).inte = s.inte := by simp [State.returnIf, apply_ite State.inte]
@[simp] theorem State.returnIf_mem : (s.returnIf cnd).mem = s.mem := by simp [State.returnIf, apply_ite State.mem]
@[simp] theorem State.returnIf_ioTab : (s.returnIf cnd).ioTab = s.ioTab := by simp [State.returnIf, apply_ite State.ioTab]
@[simp] theorem State.returnIf_devState : (s.returnIf cnd).devState = s.devState := by
  simp [State.returnIf, apply_ite State.devState]

end

theorem State.callIf_wf (h : Memory.wf s.mem = true) (cnd : Cond) (x : Word) : Memory.wf (s.callIf cnd x).mem = true := by
  unfold State.callIf
  split
  · exact State.callTo_wf h x
  · exact h

/-! ### The delivery of an interrupt -/

@[simp] theorem State.deliveryStep_flags : s.deliveryStep.flags = s.flags := by simp [State.deliveryStep]
@[simp] theorem State.deliveryStep_inte : s.deliveryStep.inte = false := by simp [State.deliveryStep]
@[simp] theorem State.deliveryStep_ioTab : s.deliveryStep.ioTab = s.ioTab := by simp [State.deliveryStep]
@[simp] theorem State.deliveryStep_devState : s.deliveryStep.devState = s.devState := by simp [State.deliveryStep]

theorem State.deliveryStep_wf (h : Memory.wf s.mem = true) : Memory.wf s.deliveryStep.mem = true := by
  rw [State.deliveryStep, State.account_mem]
  exact State.deliverInterrupt_wf h

theorem inv_deliveryStep (h : Inv s) : Inv s.deliveryStep := by
  obtain ⟨hflags, hmem, hports, hdevices⟩ := h
  exact ⟨by simpa using hflags, State.deliveryStep_wf hmem, by simpa using hports, by simpa using hdevices⟩

/-! ### The instructions -/

theorem flagsFixed_setPushPair (h : FlagsFixed s.flags) (p : PushPair) (v : Word) : FlagsFixed (s.setPushPair p v).flags := by
  cases p with
  | psw => exact flagsFixed_norm (loByte v)
  | bc | de | hl => exact h

/-- The fixed bits of FLAGS are kept: a builder of 41_arithmetic.md writes them, `norm` writes them, the write of C alone
keeps them, and no other instruction writes FLAGS (10_state.md R27). -/
theorem exec_flagsFixed {i : Instr} (hs : FlagsFixed s.flags) (h : exec i s = .next t) : FlagsFixed t.flags := by
  cases i
  case illegalCB | illegalD9 | illegalDD | illegalED | illegalFD => cases h
  all_goals obtain rfl := Host.Outcome.next.inj h
  case add | adc | sub | sbb | adi | aci | sui | sbi | cmp | cpi | daa => simp [flagsFixed_flagsArith]
  case ana | xra | ora | ani | xri | ori => simp [flagsLogic, flagsFixed_flagsArith]
  case inr | dcr => simp [flagsFixed_setFlagC, flagsFixed_flagsArith]
  case dad | rlc | rrc | ral | rar | stc | cmc => simpa using flagsFixed_setFlagC hs _
  case popPsw => simp [flagsFixed_norm]
  case pop =>
    rw [State.account_flags]
    exact flagsFixed_setPushPair (s := (s.advance 1).popped) hs _ _
  all_goals simpa using hs

/-- MEM stays canonical: every store goes through `MemWrite` (20_memory.md R53). -/
theorem exec_mem_wf {i : Instr} (hs : Memory.wf s.mem = true) (h : exec i s = .next t) : Memory.wf t.mem = true := by
  cases i
  case illegalCB | illegalD9 | illegalDD | illegalED | illegalFD => cases h
  all_goals obtain rfl := Host.Outcome.next.inj h
  case movRR | movRM | movMR | mviR | mviM | inr | dcr | lda | ldax | cma | inPort => simp [State.setReg_wf, hs]
  case sta | stax => simp [Memory.wf_set, hs]
  case xthl =>
    rw [State.account_mem, State.setPair_mem]
    exact State.memWrite_wf (State.memWrite_wf hs _ _) _ _
  case shld => simp [State.memWrite16_wf, hs]
  case push | pushPsw => simp [State.push16_wf, hs]
  case call | rst => simp [State.callTo_wf, hs]
  case cnz | cz | cnc | cc | cpo | cpe | cp | cm => simp [State.callIf_wf, hs]
  all_goals simpa using hs

/-- No instruction writes the port table (10_state.md R35). -/
theorem exec_ioTab {i : Instr} (h : exec i s = .next t) : t.ioTab = s.ioTab := by
  cases i
  case illegalCB | illegalD9 | illegalDD | illegalED | illegalFD => cases h
  all_goals
    obtain rfl := Host.Outcome.next.inj h
    simp

/-- DEVSTATE stays canonical: only IN and OUT reach a device (20_memory.md R62, R63). -/
theorem exec_devState_wf {i : Instr} (hs : DeviceTable.wf s.devState = true) (h : exec i s = .next t) :
    DeviceTable.wf t.devState = true := by
  cases i
  case illegalCB | illegalD9 | illegalDD | illegalED | illegalFD => cases h
  all_goals obtain rfl := Host.Outcome.next.inj h
  case inPort => simp [State.ioReadState_wf, hs]
  case outPort => simp [State.ioWrite_wf, hs]
  all_goals simpa using hs

/-- Only EI and DI write INTE (10_state.md R32). -/
theorem exec_inte {i : Instr} (hei : i ≠ .ei) (hdi : i ≠ .di) (h : exec i s = .next t) : t.inte = s.inte := by
  cases i
  case ei | di => contradiction
  case illegalCB | illegalD9 | illegalDD | illegalED | illegalFD => cases h
  all_goals
    obtain rfl := Host.Outcome.next.inj h
    simp

theorem exec_ei_inte (h : exec .ei s = .next t) : t.inte = true := by
  obtain rfl := Host.Outcome.next.inj h
  simp

theorem exec_di_inte (h : exec .di s = .next t) : t.inte = false := by
  obtain rfl := Host.Outcome.next.inj h
  simp

theorem inv_exec {i : Instr} (hs : Inv s) (h : exec i s = .next t) : Inv t := by
  obtain ⟨hflags, hmem, hports, hdevices⟩ := hs
  exact ⟨exec_flagsFixed hflags h, exec_mem_wf hmem h, exec_ioTab h ▸ hports, exec_devState_wf hdevices h⟩

end Sys2Proof.Machine
end

section
/-! The opcode byte is the first byte of the encoding of what it decodes to (30_encoding.md R81, R85, R88). -/

namespace Sys2Proof

/-- The opcode byte of an instruction: the first byte of its encoding (R80). -/
def Instr.opcode (i : Instr) : Option Byte := (encode i).head?

/-! ### The blocks of the opcode map whose instructions carry operand bytes -/

theorem decodeAluImm_opcode (ooo : BitVec 3) (d8 : Byte) :
    (decodeAluImm ooo d8).opcode = (decodeAluImm ooo 0x00#8).opcode := by
  unfold decodeAluImm
  split_ifs <;> rfl

theorem decodeMvi_opcode (dst : Reg) (d8 : Byte) : (decodeMvi dst d8).opcode = (decodeMvi dst 0x00#8).opcode := by
  unfold decodeMvi
  split_ifs <;> rfl

@[simp] theorem decodeJcc_opcode (cnd : Cond) (addr : Word) : (decodeJcc cnd addr).opcode = some (opCond cnd 0b010#3) := by
  cases cnd <;> rfl

@[simp] theorem decodeCcc_opcode (cnd : Cond) (addr : Word) : (decodeCcc cnd addr).opcode = some (opCond cnd 0b100#3) := by
  cases cnd <;> rfl

/-! ### The whole opcode map -/

theorem decodeOp_opcode_operands (op b2 b3 : Byte) :
    (decodeOp op b2 b3).opcode = (decodeOp op 0x00#8 0x00#8).opcode := by
  simp only [decodeOp, decodeListed, apply_ite Instr.opcode, decodeMvi_opcode _ b2, decodeAluImm_opcode _ b2,
    decodeJcc_opcode, decodeCcc_opcode]
  rfl

/-- No two opcode bytes decode to the same instruction: the byte is that of the instruction it decodes to. -/
theorem decodeOp_opcode (op b2 b3 : Byte) : (decodeOp op b2 b3).opcode = some op := by
  have h : ∀ op : Byte, (decodeOp op 0x00#8 0x00#8).opcode = some op := by decide +kernel
  rw [decodeOp_opcode_operands, h op]

/-- The byte at PC is the opcode byte of the instruction fetched there. -/
theorem Machine.State.opcode_fetchInstr (s : Machine.State) : s.fetchInstr.opcode = some (s.memRead s.pc) :=
  decodeOp_opcode _ _ _

end Sys2Proof
end

section
/-! The host's writes of FLAGS (70_reset_and_hazards.md R354): the mask of one flag meets none of the fixed bits of R27. -/

namespace Sys2Proof.Machine

theorem flagsFixed_or {f mask : Byte} (h : FlagsFixed f) (hmask : mask &&& 0x2A#8 = 0x00#8) : FlagsFixed (f ||| mask) := by
  unfold FlagsFixed at *
  rw [BitVec.and_comm, BitVec.and_or_distrib_left, BitVec.and_comm _ f, BitVec.and_comm _ mask, h, hmask]
  rfl

theorem flagsFixed_and {f keep : Byte} (h : FlagsFixed f) (hkeep : 0x02#8 &&& keep = 0x02#8) : FlagsFixed (f &&& keep) := by
  unfold FlagsFixed at *
  rw [BitVec.and_assoc, BitVec.and_comm keep, ← BitVec.and_assoc, h, hkeep]

theorem flagsFixed_hostSetFlag {s : State} (h : FlagsFixed s.flags) (f : Flag) (v : Bool) :
    FlagsFixed (s.hostSetFlag f v).flags := by
  cases v with
  | true => exact flagsFixed_or h (by cases f <;> rfl)
  | false => exact flagsFixed_and h (by cases f <;> rfl)

end Sys2Proof.Machine
end

section
/-! CYCLES_TOTAL and IOTAB are read almost nowhere: the total only where a step adds to it, the port table only to find the
device at a port that is not the timer's (20_memory.md R61). A change of the two commutes with every operation. -/

namespace Sys2Proof.Machine

/-- The state with CYCLES_TOTAL and IOTAB changed and everything else kept. -/
def State.withAside (s : State) (total : Nat → Nat) (ports : PortTable → PortTable) : State :=
  { s with cyclesTotal := total s.cyclesTotal, ioTab := ports s.ioTab }

/-- The change of IOTAB keeps the binding of every port that is not the timer's. -/
def KeepsDevicePorts (ports : PortTable → PortTable) : Prop :=
  ∀ (tab : PortTable) (port : Byte), isTimerPort port = false →
    Sparse.get none (ports tab) port.toNat = Sparse.get none tab port.toNat

variable {total : Nat → Nat} {ports : PortTable → PortTable} (s : State)

/-! ### What is read besides -/

@[simp] theorem State.withAside_a : (s.withAside total ports).a = s.a := rfl
@[simp] theorem State.withAside_h : (s.withAside total ports).h = s.h := rfl
@[simp] theorem State.withAside_l : (s.withAside total ports).l = s.l := rfl
@[simp] theorem State.withAside_flags : (s.withAside total ports).flags = s.flags := rfl
@[simp] theorem State.withAside_sp : (s.withAside total ports).sp = s.sp := rfl
@[simp] theorem State.withAside_tCounter : (s.withAside total ports).tCounter = s.tCounter := rfl
@[simp] theorem State.withAside_tReload : (s.withAside total ports).tReload = s.tReload := rfl
@[simp] theorem State.withAside_tEnabled : (s.withAside total ports).tEnabled = s.tEnabled := rfl
@[simp] theorem State.withAside_hl : (s.withAside total ports).hl = s.hl := rfl
@[simp] theorem State.withAside_psw : (s.withAside total ports).psw = s.psw := rfl
@[simp] theorem State.withAside_popValue : (s.withAside total ports).popValue = s.popValue := rfl
@[simp] theorem State.withAside_memRead (x : Word) : (s.withAside total ports).memRead x = s.memRead x := rfl
@[simp] theorem State.withAside_memRead16 (x : Word) : (s.withAside total ports).memRead16 x = s.memRead16 x := rfl
@[simp] theorem State.withAside_cond (cnd : Cond) : (s.withAside total ports).cond cnd = s.cond cnd := rfl
@[simp] theorem State.withAside_reg (r : Reg) : (s.withAside total ports).reg r = s.reg r := by cases r <;> rfl
@[simp] theorem State.withAside_pair (p : RegPair) : (s.withAside total ports).pair p = s.pair p := by cases p <;> rfl
@[simp] theorem State.withAside_pushPair (p : PushPair) : (s.withAside total ports).pushPair p = s.pushPair p := by
  cases p <;> rfl

/-! ### Operations -/

@[simp] theorem State.withAside_advance (n : Nat) :
    (s.withAside total ports).advance n = (s.advance n).withAside total ports := rfl

@[simp] theorem State.withAside_jumpTo (x : Word) :
    (s.withAside total ports).jumpTo x = (s.jumpTo x).withAside total ports := rfl

@[simp] theorem State.withAside_memWrite (x : Word) (v : Byte) :
    (s.withAside total ports).memWrite x v = (s.memWrite x v).withAside total ports := rfl

@[simp] theorem State.withAside_memWrite16 (x v : Word) :
    (s.withAside total ports).memWrite16 x v = (s.memWrite16 x v).withAside total ports := rfl

@[simp] theorem State.withAside_push16 (v : Word) :
    (s.withAside total ports).push16 v = (s.push16 v).withAside total ports := rfl

@[simp] theorem State.withAside_popped :
    (s.withAside total ports).popped = (s.popped).withAside total ports := rfl

@[simp] theorem State.withAside_callTo (x : Word) :
    (s.withAside total ports).callTo x = (s.callTo x).withAside total ports := rfl

@[simp] theorem State.withAside_returnFromCall :
    (s.withAside total ports).returnFromCall = (s.returnFromCall).withAside total ports := rfl

@[simp] theorem State.withAside_setPsw (v : Word) :
    (s.withAside total ports).setPsw v = (s.setPsw v).withAside total ports := rfl

@[simp] theorem State.withAside_setAlu (r : AluResult) :
    (s.withAside total ports).setAlu r = (s.setAlu r).withAside total ports := rfl

@[simp] theorem State.withAside_compareA (v : Byte) :
    (s.withAside total ports).compareA v = (s.compareA v).withAside total ports := rfl

@[simp] theorem State.withAside_setLogic (r : Byte) :
    (s.withAside total ports).setLogic r = (s.setLogic r).withAside total ports := rfl

@[simp] theorem State.withAside_setCarry (cy : Bool) :
    (s.withAside total ports).setCarry cy = (s.setCarry cy).withAside total ports := rfl

@[simp] theorem State.withAside_setFlagsKeepCarry (r : Byte) (ac : Bool) :
    (s.withAside total ports).setFlagsKeepCarry r ac = (s.setFlagsKeepCarry r ac).withAside total ports := rfl

@[simp] theorem State.withAside_setRotated (r : Byte) (cy : Bool) :
    (s.withAside total ports).setRotated r cy = (s.setRotated r cy).withAside total ports := rfl

@[simp] theorem State.withAside_setReg (r : Reg) (v : Byte) :
    (s.withAside total ports).setReg r v = (s.setReg r v).withAside total ports := by cases r <;> rfl

@[simp] theorem State.withAside_setPair (p : RegPair) (v : Word) :
    (s.withAside total ports).setPair p v = (s.setPair p v).withAside total ports := by cases p <;> rfl

@[simp] theorem State.withAside_setPushPair (p : PushPair) (v : Word) :
    (s.withAside total ports).setPushPair p v = (s.setPushPair p v).withAside total ports := by cases p <;> rfl

@[simp] theorem State.withAside_jumpIf (cnd : Cond) (x : Word) :
    (s.withAside total ports).jumpIf cnd x = (s.jumpIf cnd x).withAside total ports := by
  unfold State.jumpIf
  rw [State.withAside_cond]
  split_ifs <;> rfl

@[simp] theorem State.withAside_callIf (cnd : Cond) (x : Word) :
    (s.withAside total ports).callIf cnd x = (s.callIf cnd x).withAside total ports := by
  unfold State.callIf
  rw [State.withAside_cond]
  split_ifs <;> rfl

@[simp] theorem State.withAside_returnIf (cnd : Cond) :
    (s.withAside total ports).returnIf cnd = (s.returnIf cnd).withAside total ports := by
  unfold State.returnIf
  rw [State.withAside_cond]
  split_ifs <;> rfl

theorem State.withAside_timerWrite (p v : Byte) :
    (s.withAside total ports).timerWrite p v = (s.timerWrite p v).withAside total ports := by
  unfold State.timerWrite
  split_ifs <;> rfl

theorem State.withAside_tick (n : Nat) : (s.withAside total ports).tick n = (s.tick n).withAside total ports := by
  unfold State.tick
  rw [State.withAside_tEnabled, State.withAside_tReload, State.withAside_tCounter]
  split_ifs <;> rfl

section
variable (htotal : ∀ m n, total (m + n) = total m + n)
include htotal

theorem State.withAside_account (n : Nat) : (s.withAside total ports).account n = (s.account n).withAside total ports := by
  have hadd : { s.withAside total ports with cyclesTotal := total s.cyclesTotal + n } =
      ({ s with cyclesTotal := s.cyclesTotal + n } : State).withAside total ports := by
    rw [← htotal]
    rfl
  exact (congrArg (State.tick · n) hadd).trans (State.withAside_tick _ n)

/-- An instruction whose effect commutes with the change completes the same, its next state changed. -/
theorem exec_withAside_of_complete {i : Instr} {taken : Bool} {u : State} (h : exec i s = complete i taken u)
    (h' : exec i (s.withAside total ports) = complete i taken (u.withAside total ports)) :
    exec i (s.withAside total ports) = mapNext (State.withAside · total ports) (exec i s) := by
  rw [h, h', complete, State.withAside_account _ htotal]
  rfl

end

section
variable (hports : KeepsDevicePorts ports)
include hports

theorem State.withAside_boundTo {port : Byte} (hp : isTimerPort port = false) :
    (s.withAside total ports).boundTo port = s.boundTo port := hports s.ioTab port hp

theorem State.withAside_ioReadValue (port : Byte) : (s.withAside total ports).ioReadValue port = s.ioReadValue port := by
  unfold State.ioReadValue
  split
  · rfl
  · rename_i hp
    rw [State.withAside_boundTo s hports (Bool.eq_false_iff.mpr hp)]
    rfl

theorem State.withAside_ioReadState (port : Byte) :
    (s.withAside total ports).ioReadState port = (s.ioReadState port).withAside total ports := by
  unfold State.ioReadState
  split
  · rfl
  · rename_i hp
    rw [State.withAside_boundTo s hports (Bool.eq_false_iff.mpr hp)]
    cases s.boundTo port <;> rfl

theorem State.withAside_ioWrite (port v : Byte) :
    (s.withAside total ports).ioWrite port v = (s.ioWrite port v).withAside total ports := by
  unfold State.ioWrite
  split
  · exact State.withAside_timerWrite s port v
  · rename_i hp
    rw [State.withAside_boundTo s hports (Bool.eq_false_iff.mpr hp)]
    cases s.boundTo port <;> rfl

end

/-- Every instruction runs the same with CYCLES_TOTAL and IOTAB changed, if additions to the total pass through the change
and the bindings of the ports that are not the timer's are kept. -/
theorem exec_withAside (htotal : ∀ m n, total (m + n) = total m + n) (hports : KeepsDevicePorts ports) (i : Instr) :
    exec i (s.withAside total ports) = mapNext (State.withAside · total ports) (exec i s) := by
  cases i
  case illegalCB | illegalD9 | illegalDD | illegalED | illegalFD => rfl
  case inPort =>
    exact exec_withAside_of_complete s htotal rfl (congrArg (complete _ _) (by
      simp [State.withAside_ioReadValue _ hports, State.withAside_ioReadState _ hports]))
  case outPort port =>
    exact exec_withAside_of_complete s htotal rfl
      (congrArg (complete _ _) (State.withAside_ioWrite (s.advance 2) hports port s.a))
  case ei | di | hlt => exact exec_withAside_of_complete s htotal rfl rfl
  all_goals exact exec_withAside_of_complete s htotal rfl (congrArg (complete _ _) (by simp))

/-- A step runs the same with CYCLES_TOTAL and IOTAB changed, under the same two conditions. -/
theorem step_withAside (htotal : ∀ m n, total (m + n) = total m + n) (hports : KeepsDevicePorts ports) :
    step (s.withAside total ports) = mapNext (State.withAside · total ports) (step s) := by
  obtain hhalted | ⟨hrun, hdue⟩ | hfetch := s.halted_or_due_or_fetching
  · rw [step_of_halted hhalted, step_of_halted (s := s.withAside total ports) hhalted]
    rfl
  · rw [step_of_interruptDue hrun hdue, step_of_interruptDue (s := s.withAside total ports) hrun hdue]
    exact congrArg Host.Outcome.next (State.withAside_account s.deliverInterrupt htotal intCycles)
  · rw [step_of_fetching hfetch, step_of_fetching (s := s.withAside total ports) hfetch]
    exact exec_withAside s htotal hports s.fetchInstr

end Sys2Proof.Machine
end

section
/-! The statements about the state (10_state.md). -/

namespace Sys2Proof.Machine

/-- Settles O44, by the two cases of a step: the delivery keeps the invariant, and so does every instruction. -/
theorem stepKeepsInvariant : Obligations.StepKeepsInvariant :=
  fun _ _ hs hstep => step_keeps (fun _ => inv_deliveryStep) (fun _ _ _ => inv_exec) hs hstep

/-- Settles O49: adding to CYCLES_TOTAL is a change that every step commutes with. -/
theorem cyclesTotalIsUnobservable : Obligations.CyclesTotalIsUnobservable :=
  fun s k => step_withAside (total := (· + k)) (ports := id) s (fun m n => Nat.add_right_comm m n k) (fun _ _ _ => rfl)

/-- Settles O45, by what each instruction writes to FLAGS and by the masks of the host's writes. -/
theorem flagsFixedBitsKept : Obligations.FlagsFixedBitsKept := by
  refine ⟨rfl, fun _ _ _ => exec_flagsFixed, fun s t => ?_, fun s t h => ?_, fun _ => flagsFixed_norm,
    fun _ v => flagsFixed_norm (loByte v), fun _ f v h => flagsFixed_hostSetFlag h f v⟩
  · exact step_keeps (P := fun s => FlagsFixed s.flags) (fun s hs => by simpa using hs) (fun _ _ _ => exec_flagsFixed)
  · obtain rfl := Host.Outcome.next.inj h
    simp [flagsFixed_norm]

/-- Settles O46: the step at the byte 0x76 executes HLT, and no other step ends halted. -/
theorem onlyHltHalts : Obligations.OnlyHltHalts := by
  refine ⟨fun s t hstep => ⟨memRead_hlt_of_step_halted hstep, ?_⟩, fun s t hhalted hstep => ?_⟩
  · rintro ⟨hfetch, hhlt⟩
    obtain ⟨u, hu, huhalted⟩ := exec_hlt s
    rw [step_of_fetching hfetch, fetchInstr_of_memRead_hlt hhlt, hu] at hstep
    cases hstep
    exact huhalted
  · cases (step_of_halted hhalted).symm.trans hstep

/-- Settles O47, by the two cases of a step: a delivery clears INTE, and an instruction that changes it is EI or DI, whose
opcode byte stands at PC. -/
theorem inteChangesOnlyByEiDiDelivery : Obligations.InteChangesOnlyByEiDiDelivery := by
  intro s t hstep hchanged
  obtain ⟨-, hdue, rfl⟩ | ⟨hfetch, hexec⟩ := step_next_cases hstep
  · exact .inl ⟨hdue, State.deliveryStep_inte⟩
  · have hopcode := s.opcode_fetchInstr
    by_cases hei : s.fetchInstr = .ei
    · rw [hei] at hexec hopcode
      exact .inr (.inl ⟨hfetch, (Option.some.inj hopcode).symm, exec_ei_inte hexec⟩)
    by_cases hdi : s.fetchInstr = .di
    · rw [hdi] at hexec hopcode
      exact .inr (.inr ⟨hfetch, (Option.some.inj hopcode).symm, exec_di_inte hexec⟩)
    exact absurd (exec_inte hei hdi hexec) hchanged

theorem inv_reset : Inv State.reset := ⟨rfl, State.reset_memory_wf, rfl, rfl⟩

/-- Settles O43, by evaluation; a register reads its own field, and M reads the empty memory. -/
theorem resetState : Obligations.ResetState :=
  ⟨fun r => by cases r <;> rfl, rfl, rfl, rfl, fun _ => rfl, fun _ => rfl, rfl, rfl, rfl, rfl, rfl, rfl, rfl, inv_reset⟩

end Sys2Proof.Machine
end

section
/-! A binding at a timer port is a change of IOTAB that nothing reads (20_memory.md R61), and no step writes IOTAB
(10_state.md R35). -/

namespace Sys2Proof.Machine

variable {s t : State}

theorem isTimerPort_iff {p : Byte} : isTimerPort p = true ↔ p = 0x30#8 ∨ p = 0x31#8 ∨ p = 0x32#8 := by
  simp [isTimerPort, timerPortLo, timerPortHi, timerPortCtl, or_assoc]

/-- A binding at a timer port keeps the bindings of the other ports. -/
theorem keepsDevicePorts_set {p : Byte} (hp : isTimerPort p = true) (d : Config.DeviceId) :
    KeepsDevicePorts (Sparse.set none · p.toNat (some d)) := by
  intro tab port hport
  have hne : port ≠ p := fun e => Bool.eq_false_iff.mp hport (e ▸ hp)
  exact Sparse.get_set_other none tab (some d) fun e => hne (BitVec.eq_of_toNat_eq e)

theorem State.bind_eq_withAside (s : State) (p : Byte) (d : Config.DeviceId) :
    s.bind p d = s.withAside id (Sparse.set none · p.toNat (some d)) := rfl

theorem step_bind_of_isTimerPort {p : Byte} (hp : isTimerPort p = true) (d : Config.DeviceId) :
    step (s.bind p d) = mapNext (State.bind · p d) (step s) := by
  simp only [State.bind_eq_withAside]
  exact step_withAside s (fun _ _ => rfl) (keepsDevicePorts_set hp d)

theorem step_ioTab (h : step s = .next t) : t.ioTab = s.ioTab := by
  obtain ⟨-, -, rfl⟩ | ⟨-, hexec⟩ := step_next_cases h
  · exact State.deliveryStep_ioTab
  · exact exec_ioTab hexec

/-- Settles O50: a binding at a timer port is a change of IOTAB that every step commutes with, and neither a delivery nor an
instruction writes IOTAB. -/
theorem timerPortBindingIsIgnored : Obligations.TimerPortBindingIsIgnored :=
  ⟨fun _ _ d hp => step_bind_of_isTimerPort (isTimerPort_iff.mpr hp) d, fun _ _ => step_ioTab⟩

end Sys2Proof.Machine
end

section
/-! RET after a push of PC: the pushed word and the two bytes of stack come back (20_memory.md R57, 43_branch.md R230). -/

namespace Sys2Proof.Machine

theorem State.popValue_of_mem_sp {s t : State} (hmem : t.mem = s.mem) (hsp : t.sp = s.sp) : t.popValue = s.popValue := by
  simp [State.popValue, hsp, State.memRead_of_mem hmem]

/-- RET, in a state with the memory and the SP that a push of `v` leaves, goes to `v` with SP as before the push. -/
theorem exec_ret_of_push16 {s t : State} {v : Word} (hmem : t.mem = (s.push16 v).mem) (hsp : t.sp = (s.push16 v).sp) :
    ∃ u, exec .ret t = .next u ∧ u.pc = v ∧ u.sp = s.sp ∧ u.inte = t.inte := by
  have hpop : t.popValue = v := (State.popValue_of_mem_sp hmem hsp).trans (State.popValue_push16 s v)
  have hpopped : t.popped.sp = s.sp := by simp [hsp]
  exact ⟨_, rfl, (State.account_pc _ _).trans hpop, (State.account_sp _ _).trans hpopped, State.account_inte _ _⟩

/-- RET after an instruction of `len` bytes that calls: control goes past those bytes, with SP as before the call. -/
theorem exec_ret_of_callTo {s : State} {i : Instr} {taken : Bool} {len : Nat} {target : Word}
    (h : exec i s = complete i taken ((s.advance len).callTo target)) :
    ∃ t u, exec i s = .next t ∧ exec .ret t = .next u ∧ u.pc = s.pc + BitVec.ofNat 16 len ∧ u.sp = s.sp := by
  obtain ⟨u, hret, hpc, hsp, -⟩ := exec_ret_of_push16 (s := s.advance len) (v := (s.advance len).pc)
    (t := ((s.advance len).callTo target).account (cyclesOf i taken)) (State.account_mem _ _) (State.account_sp _ _)
  exact ⟨_, u, h, hret, hpc, hsp⟩

/-- RET after an interrupt delivery: control goes to the interrupted PC (60_exceptions.md R307), INTE stays false. -/
theorem exec_ret_deliveryStep (s : State) :
    ∃ u, exec .ret s.deliveryStep = .next u ∧ u.pc = s.pc ∧ u.sp = s.sp ∧ u.inte = false := by
  obtain ⟨u, hret, hpc, hsp, hinte⟩ := exec_ret_of_push16 (s := s) (v := s.pc) (t := s.deliveryStep)
    (State.account_mem _ _) (State.account_sp _ _)
  exact ⟨u, hret, hpc, hsp, hinte.trans State.deliveryStep_inte⟩

/-- Settles O53: CALL, RST and the delivery each push the PC to return to, and RET pops it. -/
theorem returnResumesTheCaller : Obligations.ReturnResumesTheCaller := by
  refine fun addr n s => ⟨exec_ret_of_callTo (i := .call addr) rfl, exec_ret_of_callTo (i := .rst n) rfl, fun hrun hdue => ?_⟩
  obtain ⟨u, hret⟩ := exec_ret_deliveryStep s
  exact ⟨_, u, step_of_interruptDue hrun hdue, hret⟩

end Sys2Proof.Machine
end

section
/-! Decoding a list of bytes (30_encoding.md R80, R85, R88): the list is cut by the length that its first byte announces, and
what is left of the cut decodes to the instruction whose encoding it is. -/

namespace Sys2Proof

variable {op : Byte} {i : Instr} {rest bytes : List Byte}

/-! ### The cut -/

theorem lengthOf_eq_one_or_two_or_three (op : Byte) : lengthOf op = 1 ∨ lengthOf op = 2 ∨ lengthOf op = 3 := by
  unfold lengthOf
  split_ifs <;> simp

theorem decode_of_lengthOf_eq_one (h : lengthOf op = 1) (rest : List Byte) :
    decode (op :: rest) = .ok (decodeOp op 0x00#8 0x00#8, rest) := by
  simp [decode, h]

theorem decode_of_lengthOf_eq_two (h : lengthOf op = 2) (b2 : Byte) (rest : List Byte) :
    decode (op :: b2 :: rest) = .ok (decodeOp op b2 0x00#8, rest) := by
  simp [decode, h]

theorem decode_of_lengthOf_eq_three (h : lengthOf op = 3) (b2 b3 : Byte) (rest : List Byte) :
    decode (op :: b2 :: b3 :: rest) = .ok (decodeOp op b2 b3, rest) := by
  simp [decode, h]

theorem decode_of_length_lt (h : (op :: rest).length < lengthOf op) :
    decode (op :: rest) = .error (.truncated op) := by
  obtain h1 | h2 | h3 := lengthOf_eq_one_or_two_or_three op
  · simp [h1] at h
  · obtain rfl : rest = [] := by simpa [h2] using h
    simp [decode, h2]
  · match rest with
    | [] | [_] => simp [decode, h3]
    | _ :: _ :: _ =>
      simp only [h3, List.length_cons] at h
      omega

/-- A list long enough for its opcode byte is cut there, and decodes by the bytes before the cut. -/
theorem exists_decode_of_lengthOf_le (h : lengthOf op ≤ (op :: rest).length) :
    ∃ b2 b3, (op :: rest).take (lengthOf op) = [op, b2, b3].take (lengthOf op) ∧
      decode (op :: rest) = .ok (decodeOp op b2 b3, (op :: rest).drop (lengthOf op)) := by
  obtain h1 | h2 | h3 := lengthOf_eq_one_or_two_or_three op
  · exact ⟨0x00#8, 0x00#8, by simp [h1], by simp [decode_of_lengthOf_eq_one h1, h1]⟩
  · match rest with
    | [] => simp [h2] at h
    | b2 :: rest => exact ⟨b2, 0x00#8, by simp [h2], by simp [decode_of_lengthOf_eq_two h2, h2]⟩
  · match rest with
    | [] | [_] => simp [h3] at h
    | b2 :: b3 :: rest => exact ⟨b2, b3, by simp [h3], by simp [decode_of_lengthOf_eq_three h3, h3]⟩

/-- Decoding answers only the instruction of the bytes before the cut, and the bytes after it. -/
theorem exists_decodeOp_of_decode (h : decode bytes = .ok (i, rest)) :
    ∃ op b2 b3, i = decodeOp op b2 b3 ∧ bytes = [op, b2, b3].take (lengthOf op) ++ rest := by
  cases bytes with
  | nil => cases h
  | cons op tail =>
    obtain hlt | hle := Nat.lt_or_ge (op :: tail).length (lengthOf op)
    · cases (decode_of_length_lt hlt).symm.trans h
    · obtain ⟨b2, b3, htake, hdecode⟩ := exists_decode_of_lengthOf_le hle
      cases hdecode.symm.trans h
      exact ⟨op, b2, b3, rfl, by rw [← htake, List.take_append_drop]⟩

/-- Settles O3, by the two sides of the length that the opcode byte announces. -/
theorem decodeRejectsOnlyMissingBytes : Obligations.DecodeRejectsOnlyMissingBytes := by
  refine ⟨lengthOf_eq_one_or_two_or_three, rfl, fun op rest => ⟨decode_of_length_lt, fun hle => ?_⟩⟩
  obtain ⟨b2, b3, -, hdecode⟩ := exists_decode_of_lengthOf_le hle
  exact ⟨_, hdecode⟩

/-! ### Decoding an encoding -/

/-- A three-byte instruction whose opcode byte puts the word of bytes 3 and 2 into `f` (R80, R94). -/
theorem decode_withWord {f : Word → Instr} (h3 : lengthOf op = 3)
    (hop : ∀ b2 b3, decodeOp op b2 b3 = f (mkWord b3 b2)) (v : Word) (rest : List Byte) :
    decode (withWord op v ++ rest) = .ok (f v, rest) := by
  have hv := hop (loByte v) (hiByte v)
  rw [mkWord_hiByte_loByte] at hv
  rw [← hv]
  exact decode_of_lengthOf_eq_three h3 _ _ _

theorem decode_encode_rst_append (n : BitVec 3) (rest : List Byte) :
    decode (encode (.rst n) ++ rest) = .ok (.rst n, rest) := by
  have hop : ∀ n : BitVec 3, lengthOf (0b11#2 ++ n ++ 0b111#3) = 1 ∧
      decodeOp (0b11#2 ++ n ++ 0b111#3) 0x00#8 0x00#8 = .rst n := by decide
  obtain ⟨h1, hrst⟩ := hop n
  exact (decode_of_lengthOf_eq_one h1 rest).trans (by rw [hrst])

/-- The opcode byte of each operand its row admits is a literal, and the decoder's classes evaluate on it; an operand that the
row does not admit has the byte of another row. -/
theorem decode_encode_append (hwf : i.wf = true) (rest : List Byte) : decode (encode i ++ rest) = .ok (i, rest) := by
  cases i
  case movRR dst src =>
    cases dst
    case m => cases hwf
    all_goals
      cases src
      case m => cases hwf
      all_goals rfl
  case movRM r | movMR r | mviR r _ =>
    cases r
    case m => cases hwf
    all_goals rfl
  case ldax p | stax p =>
    cases p
    case hl | sp => cases hwf
    all_goals rfl
  case push p | pop p =>
    cases p
    case psw => cases hwf
    all_goals rfl
  case add r | adc r | sub r | sbb r | ana r | xra r | ora r | cmp r | inr r | dcr r => cases r <;> rfl
  case inx p | dcx p | dad p => cases p <;> rfl
  case lxi p v => cases p <;> exact decode_withWord rfl (fun _ _ => rfl) v rest
  case lda v | sta v | lhld v | shld v | jmp v | jnz v | jz v | jnc v | jc v | jpo v | jpe v | jp v | jm v | call v | cnz v |
      cz v | cnc v | cc v | cpo v | cpe v | cp v | cm v =>
    exact decode_withWord rfl (fun _ _ => rfl) v rest
  case rst n => exact decode_encode_rst_append n rest
  all_goals rfl

/-- Settles O1, by the case split over the instructions of `decode_encode_append`. -/
theorem decodeInvertsEncode : Obligations.DecodeInvertsEncode := fun _ rest hwf => decode_encode_append hwf rest

/-- The encoding is as long as its opcode byte announces, because decoding it leaves nothing. -/
theorem length_encode_of_wf (hwf : i.wf = true) (h : encode i = op :: rest) : (encode i).length = lengthOf op := by
  have hdecode := decode_encode_append hwf []
  rw [List.append_nil, h] at hdecode
  rw [h]
  obtain hlt | hle := Nat.lt_or_ge (op :: rest).length (lengthOf op)
  · cases (decode_of_length_lt hlt).symm.trans hdecode
  · obtain ⟨b2, b3, -, hcut⟩ := exists_decode_of_lengthOf_le hle
    have hdrop : (op :: rest).drop (lengthOf op) = [] := by
      rw [hcut] at hdecode
      exact (Prod.mk.inj (Except.ok.inj hdecode)).2
    exact le_antisymm (List.drop_eq_nil_iff.mp hdrop) hle

/-! ### Encoding what is decoded -/

@[simp] theorem decodeAluImm_wf (ooo : BitVec 3) (d8 : Byte) : (decodeAluImm ooo d8).wf = true := by
  unfold decodeAluImm
  split_ifs <;> rfl

@[simp] theorem decodeMvi_wf (dst : Reg) (d8 : Byte) : (decodeMvi dst d8).wf = true := by
  cases dst <;> rfl

@[simp] theorem decodeJcc_wf (cnd : Cond) (addr : Word) : (decodeJcc cnd addr).wf = true := by
  cases cnd <;> rfl

@[simp] theorem decodeCcc_wf (cnd : Cond) (addr : Word) : (decodeCcc cnd addr).wf = true := by
  cases cnd <;> rfl

theorem decodeOp_wf_operands (op b2 b3 : Byte) : (decodeOp op b2 b3).wf = (decodeOp op 0x00#8 0x00#8).wf := by
  simp only [decodeOp, decodeListed, apply_ite Instr.wf, decodeMvi_wf, decodeAluImm_wf, decodeJcc_wf, decodeCcc_wf]
  rfl

/-- The decoder answers only operands that the row of the instruction admits (R91). -/
theorem decodeOp_wf (op b2 b3 : Byte) : (decodeOp op b2 b3).wf = true := by
  have h : ∀ op : Byte, (decodeOp op 0x00#8 0x00#8).wf = true := by decide +kernel
  rw [decodeOp_wf_operands, h op]

/-- The bytes of the instruction after its opcode byte are the first of `b2` and `b3`, as many as it has (R80). -/
def OperandsAre (b2 b3 : Byte) (i : Instr) : Prop := (encode i).tail <+: [b2, b3]

variable {b2 b3 : Byte}

theorem OperandsAre.single (h : encode i = [op]) : OperandsAre b2 b3 i := by
  simp [OperandsAre, h]

theorem OperandsAre.pair (h : encode i = [op, b2]) : OperandsAre b2 b3 i := by
  simp [OperandsAre, h]

theorem OperandsAre.word (h : encode i = withWord op (mkWord b3 b2)) : OperandsAre b2 b3 i := by
  simp [OperandsAre, h, withWord]

theorem OperandsAre.ite {c : Prop} [Decidable c] {i j : Instr} (hi : OperandsAre b2 b3 i) (hj : OperandsAre b2 b3 j) :
    OperandsAre b2 b3 (if c then i else j) := by
  split_ifs
  · exact hi
  · exact hj

theorem decodeMov_operandsAre (dst src : Reg) : OperandsAre b2 b3 (decodeMov dst src) := by
  unfold decodeMov
  split_ifs <;> exact .single rfl

theorem decodeAluReg_operandsAre (ooo : BitVec 3) (src : Reg) : OperandsAre b2 b3 (decodeAluReg ooo src) := by
  unfold decodeAluReg
  split_ifs <;> exact .single rfl

theorem decodePush_operandsAre (p : PushPair) : OperandsAre b2 b3 (decodePush p) := by
  unfold decodePush
  split_ifs <;> exact .single rfl

theorem decodePop_operandsAre (p : PushPair) : OperandsAre b2 b3 (decodePop p) := by
  unfold decodePop
  split_ifs <;> exact .single rfl

theorem decodeNopDup_operandsAre (k : BitVec 3) : OperandsAre b2 b3 (decodeNopDup k) := by
  unfold decodeNopDup
  split_ifs <;> exact .single rfl

theorem decodeRcc_operandsAre (cnd : Cond) : OperandsAre b2 b3 (decodeRcc cnd) := by
  cases cnd <;> exact .single rfl

theorem decodeMvi_operandsAre (dst : Reg) : OperandsAre b2 b3 (decodeMvi dst b2) := by
  unfold decodeMvi
  split_ifs <;> exact .pair rfl

theorem decodeAluImm_operandsAre (ooo : BitVec 3) : OperandsAre b2 b3 (decodeAluImm ooo b2) := by
  unfold decodeAluImm
  split_ifs <;> exact .pair rfl

theorem decodeJcc_operandsAre (cnd : Cond) : OperandsAre b2 b3 (decodeJcc cnd (mkWord b3 b2)) := by
  cases cnd <;> exact .word rfl

theorem decodeCcc_operandsAre (cnd : Cond) : OperandsAre b2 b3 (decodeCcc cnd (mkWord b3 b2)) := by
  cases cnd <;> exact .word rfl

theorem decodeListed_operandsAre (op : Byte) : OperandsAre b2 b3 (decodeListed op b2 (mkWord b3 b2)) := by
  unfold decodeListed
  repeat' apply OperandsAre.ite
  all_goals simp [OperandsAre, encode, withWord]

/-- The decoder drops no bit of the operand bytes that the instruction has: one line for each of its classes (R85). -/
theorem decodeOp_operandsAre (op b2 b3 : Byte) : OperandsAre b2 b3 (decodeOp op b2 b3) :=
  .ite (decodeNopDup_operandsAre _) <|
  .ite (.single rfl) <|
  .ite (decodeMov_operandsAre _ _) <|
  .ite (decodeAluReg_operandsAre _ _) <|
  .ite (decodeMvi_operandsAre _) <|
  .ite (.single rfl) <|
  .ite (.single rfl) <|
  .ite (.word rfl) <|
  .ite (.single rfl) <|
  .ite (.single rfl) <|
  .ite (.single rfl) <|
  .ite (decodePush_operandsAre _) <|
  .ite (decodePop_operandsAre _) <|
  .ite (decodeJcc_operandsAre _) <|
  .ite (decodeCcc_operandsAre _) <|
  .ite (decodeRcc_operandsAre _) <|
  .ite (.single rfl) <|
  .ite (decodeAluImm_operandsAre _) (decodeListed_operandsAre op)

/-- The encoding of a decoded instruction is the bytes it was decoded from: its opcode byte, by `decodeOp_opcode`, then
its operand bytes, as many in all as the opcode byte announces. -/
theorem encode_decodeOp (op b2 b3 : Byte) : encode (decodeOp op b2 b3) = [op, b2, b3].take (lengthOf op) := by
  obtain ⟨operands, hcons⟩ := List.head?_eq_some_iff.mp (decodeOp_opcode op b2 b3)
  have hoperands : operands <+: [b2, b3] := by simpa [OperandsAre, hcons] using decodeOp_operandsAre op b2 b3
  have hprefix : encode (decodeOp op b2 b3) <+: [op, b2, b3] := hcons ▸ List.cons_prefix_cons.mpr ⟨rfl, hoperands⟩
  rw [← length_encode_of_wf (decodeOp_wf op b2 b3) hcons]
  exact List.prefix_iff_eq_take.mp hprefix

/-- Settles O2: a list that decodes is the bytes of one `decodeOp` and the bytes left over. -/
theorem encodeInvertsDecode : Obligations.EncodeInvertsDecode := by
  intro bytes i rest h
  obtain ⟨op, b2, b3, rfl, rfl⟩ := exists_decodeOp_of_decode h
  exact ⟨decodeOp_wf op b2 b3, by rw [encode_decodeOp]⟩

/-! ### Illegal bytes, the words of the spec, the fetch at the top of memory -/

/-- If `op'` decodes to `i` whatever bytes follow, no other opcode byte does: both are the opcode byte of `i`. -/
theorem decodeOp_eq_iff {op' : Byte} (h : ∀ b2 b3, decodeOp op' b2 b3 = i) (b2 b3 : Byte) :
    decodeOp op b2 b3 = i ↔ op = op' := by
  constructor
  · intro hi
    have hopcode : i.opcode = some op := hi ▸ decodeOp_opcode op b2 b3
    have hopcode' : i.opcode = some op' := h b2 b3 ▸ decodeOp_opcode op' b2 b3
    exact Option.some.inj (hopcode.symm.trans hopcode')
  · rintro rfl
    exact h b2 b3

/-- Settles O4: each illegal row is what its byte decodes to, whatever follows. -/
theorem illegalBytesAreFive : Obligations.IllegalBytesAreFive := fun _ b2 b3 =>
  ⟨decodeOp_eq_iff (fun _ _ => rfl) b2 b3, decodeOp_eq_iff (fun _ _ => rfl) b2 b3, decodeOp_eq_iff (fun _ _ => rfl) b2 b3,
    decodeOp_eq_iff (fun _ _ => rfl) b2 b3, decodeOp_eq_iff (fun _ _ => rfl) b2 b3⟩

/-- Settles O5, by evaluation. -/
theorem specWordsDecode : Obligations.SpecWordsDecode :=
  ⟨rfl, rfl, rfl, rfl, rfl, rfl, rfl, rfl, rfl, rfl, rfl, rfl, rfl, rfl, rfl, rfl, rfl, rfl, rfl⟩

/-- Settles O7: the addresses PC + 1 and PC + 2 of the fetch wrap. -/
theorem pcWrapsAcrossTheTop : Obligations.PcWrapsAcrossTheTop := by
  intro s hfetch hpc
  rw [Machine.step_of_fetching hfetch, Machine.State.fetchInstr, hpc]
  rfl

end Sys2Proof
end

section
/-! What an instruction changes before its cycles pass: the frame of its effect, built up one write at a time, is the frame of
the completed instruction (60_exceptions.md R300). -/

namespace Sys2Proof.Machine

theorem State.memWrite_reg (s : State) {r : Reg} (hr : r ≠ .m) (x : Word) (v : Byte) : (s.memWrite x v).reg r = s.reg r := by
  cases r with
  | m => contradiction
  | _ => rfl

/-- From `s` to `u`, no general register but `regs` and no byte of memory but `bytes` changes, nor does the control state, the
timer or CYCLES_TOTAL. FLAGS, SP and PC are free. -/
structure ChangesOnly (regs : List Reg) (bytes : List Word) (s u : State) : Prop where
  regs : SameRegsBut regs s u
  memory : SameMemoryBut bytes s u
  control : SameControl s u
  tCounter : u.tCounter = s.tCounter
  tReload : u.tReload = s.tReload
  tEnabled : u.tEnabled = s.tEnabled
  tPending : u.tPending = s.tPending
  cyclesTotal : u.cyclesTotal = s.cyclesTotal

namespace ChangesOnly

variable {regs : List Reg} {bytes : List Word} {s u : State}

theorem refl (s : State) : ChangesOnly [] [] s s :=
  ⟨fun _ _ _ => rfl, fun _ _ => rfl, ⟨rfl, rfl, rfl, rfl⟩, rfl, rfl, rfl, rfl, rfl⟩

theorem mono_bytes {bytes' : List Word} (h : ChangesOnly regs bytes s u) (hsub : bytes ⊆ bytes') :
    ChangesOnly regs bytes' s u :=
  { h with memory := fun x hx => h.memory x fun hmem => hx (hsub hmem) }

/-! ### The three writes that every effect is made of -/

theorem withFlagsSpPc (h : ChangesOnly regs bytes s u) (f : Byte) (sp pc : Word) :
    ChangesOnly regs bytes s { u with flags := f, sp := sp, pc := pc } :=
  { h with
    regs := fun q hm hq => (State.reg_of_fields rfl rfl rfl rfl rfl rfl rfl hm).trans (h.regs q hm hq) }

theorem setReg (h : ChangesOnly regs bytes s u) {r : Reg} (hr : r ≠ .m) (v : Byte) :
    ChangesOnly (r :: regs) bytes s (u.setReg r v) where
  regs q hm hq := by
    rw [State.setReg_reg_other u hm (List.ne_of_not_mem_cons hq), h.regs q hm (List.not_mem_of_not_mem_cons hq)]
  memory x hx := (State.setReg_memRead_physical u hr v x).trans (h.memory x hx)
  control := by simpa [SameControl] using h.control
  tCounter := by simpa using h.tCounter
  tReload := by simpa using h.tReload
  tEnabled := by simpa using h.tEnabled
  tPending := by simpa using h.tPending
  cyclesTotal := by simpa using h.cyclesTotal

theorem memWrite (h : ChangesOnly regs bytes s u) (x : Word) (v : Byte) :
    ChangesOnly regs (x :: bytes) s (u.memWrite x v) :=
  { h with
    regs := fun q hm hq => (State.memWrite_reg u hm x v).trans (h.regs q hm hq)
    memory := fun y hy => by
      rw [State.memRead_memWrite_other u v (List.ne_of_not_mem_cons hy), h.memory y (List.not_mem_of_not_mem_cons hy)] }

/-! ### Effects made of them -/

theorem advance (h : ChangesOnly regs bytes s u) (n : Nat) : ChangesOnly regs bytes s (u.advance n) :=
  h.withFlagsSpPc u.flags u.sp (u.pc + BitVec.ofNat 16 n)

theorem setPair (h : ChangesOnly regs bytes s u) (p : RegPair) (v : Word) :
    ChangesOnly (pairRegs p ++ regs) bytes s (u.setPair p v) := by
  cases p with
  | bc => exact (h.setReg (r := .c) nofun (loByte v)).setReg (r := .b) nofun (hiByte v)
  | de => exact (h.setReg (r := .e) nofun (loByte v)).setReg (r := .d) nofun (hiByte v)
  | hl => exact (h.setReg (r := .l) nofun (loByte v)).setReg (r := .h) nofun (hiByte v)
  | sp => exact h.withFlagsSpPc u.flags v u.pc

theorem memWrite16 (h : ChangesOnly regs bytes s u) (x v : Word) :
    ChangesOnly regs (x :: (x + 1) :: bytes) s (u.memWrite16 x v) :=
  ((h.memWrite x (loByte v)).memWrite (x + 1) (hiByte v)).mono_bytes (List.Perm.swap x (x + 1) bytes).subset

/-- The frame of the effect is the frame of the completed instruction. -/
theorem frame_account (h : ChangesOnly regs bytes s u) (n : Nat) : Frame regs bytes n s (u.account n) :=
  State.frame_account n h.regs h.memory h.control h.tCounter h.tReload h.tEnabled h.tPending h.cyclesTotal

end ChangesOnly

end Sys2Proof.Machine
end

section
/-! The data transfer instructions (40_data_transfer.md R110 to R122): each of them but XCHG moves PC past its bytes and
writes one thing, a register, a byte of memory, a pair or a word of memory. -/

namespace Sys2Proof

/-! ### Opcode bytes as numbers (30_encoding.md R81, R84) -/

theorem opMov_eq_ofNat (dst src : Reg) :
    opMov dst src = BitVec.ofNat 8 (0x40 + 8 * dst.code.toNat + src.code.toNat) := by
  cases dst <;> cases src <;> rfl

theorem opRegD_eq_ofNat (dst : Reg) (low : BitVec 3) :
    opRegD dst low = BitVec.ofNat 8 (low.toNat + 8 * dst.code.toNat) := by
  have h : ∀ code low : BitVec 3, 0b00#2 ++ code ++ low = BitVec.ofNat 8 (low.toNat + 8 * code.toNat) := by decide
  exact h dst.code low

theorem opPair_eq_ofNat (p : RegPair) (low : BitVec 4) :
    opPair p low = BitVec.ofNat 8 (low.toNat + 16 * p.code.toNat) := by
  have h : ∀ (code : BitVec 2) (low : BitVec 4), 0b00#2 ++ code ++ low = BitVec.ofNat 8 (low.toNat + 16 * code.toNat) := by
    decide
  exact h p.code low

/-! ### Operands -/

theorem Reg.ne_m_of_isPhysical {r : Reg} (h : r.isPhysical = true) : r ≠ .m := by
  rintro rfl
  cases h

theorem ofNat_pairNat (s : Machine.State) (p : RegPair) : BitVec.ofNat 16 (pairNat s p) = s.pair p := by
  cases p with
  | sp => simp [pairNat, Machine.State.pair]
  | bc | de | hl => simp [pairNat, Machine.State.pair, Machine.State.hl, ← mkWord_toNat]

end Sys2Proof

namespace Sys2Proof.Machine

theorem holdsPair_account_setPair {s u : State} (hsp : u.sp = s.sp) (p : RegPair) (v : Word) (n : Nat) :
    HoldsPair p v s ((u.setPair p v).account n) := by
  cases p <;> simp [HoldsPair, State.setPair, hsp]

/-! ### Instructions that write one thing -/

section
variable {s : State} {i : Instr} {taken : Bool} {len : Nat}

/-- An instruction that flows on and writes one register. -/
theorem exec_of_setReg {r : Reg} {v : Byte} (hr : r ≠ .m)
    (h : exec i s = complete i taken ((s.advance len).setReg r v)) :
    ∃ t, exec i s = .next t ∧ t.reg r = v ∧ FlowsOn len s t ∧ Frame [r] [] (cyclesOf i taken) s t :=
  ⟨_, h, by simp, by simp [FlowsOn], (((ChangesOnly.refl s).advance len).setReg hr v).frame_account _⟩

/-- An instruction that flows on and stores one byte. -/
theorem exec_of_memWrite {x : Word} {v : Byte} (h : exec i s = complete i taken ((s.advance len).memWrite x v)) :
    ∃ t, exec i s = .next t ∧ t.memRead x = v ∧ FlowsOn len s t ∧ Frame [] [x] (cyclesOf i taken) s t :=
  ⟨_, h, by simp, by simp [FlowsOn], (((ChangesOnly.refl s).advance len).memWrite x v).frame_account _⟩

/-- An instruction that moves PC on and writes one pair. -/
theorem exec_of_setPair {p : RegPair} {v : Word} (h : exec i s = complete i taken ((s.advance len).setPair p v)) :
    ∃ t, exec i s = .next t ∧ HoldsPair p v s t ∧ t.flags = s.flags ∧ t.pc = s.pc + BitVec.ofNat 16 len ∧
      Frame (pairRegs p) [] (cyclesOf i taken) s t := by
  refine ⟨_, h, holdsPair_account_setPair rfl p v _, by simp, by simp, ?_⟩
  simpa using (((ChangesOnly.refl s).advance len).setPair p v).frame_account (cyclesOf i taken)

end

/-! ### Loads and stores at an address -/

section
variable (addr : Word) (s : State)

theorem exec_lda : ∃ t, exec (.lda addr) s = .next t ∧ t.a = s.memRead addr ∧ FlowsOn 3 s t ∧ Frame [.a] [] 13 s t :=
  exec_of_setReg (r := .a) nofun rfl

theorem exec_sta : ∃ t, exec (.sta addr) s = .next t ∧ t.memRead addr = s.a ∧ FlowsOn 3 s t ∧ Frame [] [addr] 13 s t :=
  exec_of_memWrite rfl

theorem exec_lhld :
    ∃ t, exec (.lhld addr) s = .next t ∧ t.l = s.memRead addr ∧ t.h = s.memRead (addr + 1) ∧ FlowsOn 3 s t ∧
      Frame [.h, .l] [] 16 s t := by
  obtain ⟨t, hexec, ⟨hh, hl, hsp⟩, hflags, hpc, hframe⟩ := exec_of_setPair (i := .lhld addr) (s := s) (taken := false) rfl
  exact ⟨t, hexec, by simpa [State.memRead16] using hl, by simpa [State.memRead16] using hh, ⟨hflags, hsp, hpc⟩, hframe⟩

theorem exec_shld :
    ∃ t, exec (.shld addr) s = .next t ∧ t.memRead addr = s.l ∧ t.memRead (addr + 1) = s.h ∧ FlowsOn 3 s t ∧
      Frame [] [addr, addr + 1] 16 s t := by
  refine ⟨_, rfl, ?_, ?_, by simp [FlowsOn],
    (((ChangesOnly.refl s).advance 3).memWrite16 addr s.hl).frame_account 16⟩
  all_goals simp [State.memRead_memWrite16, State.hl]

end

/-! ### The statements -/

/-- Settles O12: each of the three writes one register. -/
theorem movAndMviIntoRegister : Obligations.MovAndMviIntoRegister := by
  intro dst src d8 s hdst _
  have hm : dst ≠ .m := Reg.ne_m_of_isPhysical hdst
  have hmovRM : encode (.movRM dst) = [BitVec.ofNat 8 (0x46 + 8 * dst.code.toNat)] := by cases dst <;> rfl
  exact ⟨⟨congrArg (· :: []) (opMov_eq_ofNat dst src), exec_of_setReg hm rfl⟩, ⟨hmovRM, exec_of_setReg hm rfl⟩,
    congrArg (· :: [d8]) (opRegD_eq_ofNat dst 0b110#3), exec_of_setReg hm rfl⟩

/-- Settles O13: each of the two stores one byte, at the HL that was. -/
theorem movAndMviIntoMemory : Obligations.MovAndMviIntoMemory := fun src _ _ _ =>
  ⟨⟨congrArg (· :: []) (opMov_eq_ofNat .m src), exec_of_memWrite rfl⟩, rfl, exec_of_memWrite rfl⟩

/-- Settles O14: LXI writes one pair, and its operand bytes are those of the word. -/
theorem lxiLoadsPair : Obligations.LxiLoadsPair := fun p v _ =>
  ⟨congrArg (· :: [loByte v, hiByte v]) (opPair_eq_ofNat p 0b0001#4), exec_of_setPair rfl⟩

/-- Settles O15: each of the two writes A. -/
theorem ldaAndLdaxLoadA : Obligations.LdaAndLdaxLoadA := by
  intro addr p s _
  rw [ofNat_pairNat]
  exact ⟨exec_lda addr s, exec_of_setReg (r := .a) nofun rfl⟩

/-- Settles O16: each of the two stores one byte. -/
theorem staAndStaxStoreA : Obligations.StaAndStaxStoreA := by
  intro addr p s _
  rw [ofNat_pairNat]
  exact ⟨exec_sta addr s, exec_of_memWrite rfl⟩

/-- Settles O17: LHLD writes the pair HL, SHLD one word of memory. -/
theorem lhldAndShldMoveHl : Obligations.LhldAndShldMoveHl := fun addr s => ⟨exec_lhld addr s, exec_shld addr s⟩

/-- Settles O51: the load reads the bytes that the store left, since a register written in between is no memory. -/
theorem storedValueIsLoadedBack : Obligations.StoredValueIsLoadedBack := by
  refine fun addr v w s => ⟨?_, ?_⟩
  · obtain ⟨t, hsta, hstored, -⟩ := exec_sta addr s
    obtain ⟨u, hlda, ha, -⟩ := exec_lda addr { t with a := v }
    exact ⟨t, u, hsta, hlda, ha.trans hstored⟩
  · obtain ⟨t, hshld, hlow, hhigh, -⟩ := exec_shld addr s
    obtain ⟨u, hlhld, hl, hh, -⟩ := exec_lhld addr { t with h := v, l := w }
    exact ⟨t, u, hshld, hlhld, hh.trans hhigh, hl.trans hlow⟩

/-- Settles O18: XCHG writes both pairs, with values read before either write. -/
theorem xchgSwapsDeAndHl : Obligations.XchgSwapsDeAndHl := by
  intro s
  have hchanges := (((ChangesOnly.refl s).advance 1).setPair .hl (s.pair .de)).setPair .de (s.pair .hl)
  refine ⟨_, rfl, ?_, ?_, ?_, ?_, by simp [FlowsOn, State.setPair], hchanges.frame_account 4⟩
  all_goals simp [State.setPair, State.pair, State.hl]

end Sys2Proof.Machine
end

section
/-! The results of the ALU as numbers (41_arithmetic.md R140 to R143, R158): modulo 256, with the flags of the exact sum or
difference. -/

namespace Sys2Proof.Machine

/-! ### Addition and subtraction -/

theorem add8_r_toNat (a v : Byte) (cin : Bool) : (add8 a v cin).r.toNat = (a.toNat + v.toNat + cin.toNat) % 256 :=
  BitVec.toNat_ofNat _ 8

theorem sub8_r_toNat (a v : Byte) (bin : Bool) :
    (sub8 a v bin).r.toNat = (a.toNat + (256 - (v.toNat + bin.toNat))) % 256 := by
  have hbin : (if bin then 0x01#8 else 0x00#8 : Byte).toNat = bin.toNat := by cases bin <;> rfl
  have hle : bin.toNat ≤ 1 := bin.toNat_le
  change (a - v - (if bin then 0x01#8 else 0x00#8)).toNat = _
  rw [BitVec.toNat_sub, BitVec.toNat_sub, hbin]
  omega

/-! ### The flags of INR and DCR -/

/-- A carry written after `flags_arith` is a carry given to it (R153). -/
theorem setFlagC_flagsArith (r : Byte) (cy ac carry : Bool) : setFlagC (flagsArith r cy ac) carry = flagsArith r carry ac := by
  have h : ∀ (r : Byte) (cy ac carry : Bool), setFlagC (flagsArith r cy ac) carry = flagsArith r carry ac := by
    decide +kernel
  exact h r cy ac carry

theorem add8_one_ac (v : Byte) : (add8 v 0x01#8 false).ac = decide (v.toNat % 16 = 15) := by
  change decide (0x0F < v.toNat % 16 + 1 + 0) = _
  rw [decide_eq_decide]
  omega

theorem sub8_one_ac (v : Byte) : (sub8 v 0x01#8 false).ac = decide (v.toNat % 16 ≠ 0) := by
  change decide (1 + 0 ≤ v.toNat % 16) = _
  rw [decide_eq_decide]
  omega

/-! ### The correction of DAA -/

theorem daaCorr_toNat (a f : Byte) :
    (daaCorr a f).toNat =
      (if 9 < lowNibble a ∨ flagAC f = true then 6 else 0) + (if daaHighDue a f then 0x60 else 0) := by
  unfold daaCorr daaLow
  split_ifs <;> rfl

end Sys2Proof.Machine
end

section
/-! The arithmetic instructions (41_arithmetic.md R145 to R158): each moves PC past its bytes, writes A, an operand or a pair,
and the flags that its row writes. -/

namespace Sys2Proof

/-! ### Pairs as numbers (10_state.md R24) -/

theorem pair_toNat (s : Machine.State) (p : RegPair) : (s.pair p).toNat = pairNat s p := by
  cases p with
  | sp => rfl
  | bc | de | hl => exact mkWord_toNat _ _

variable {p : RegPair} {v : Word} {s t : Machine.State}

theorem pairNat_of_holdsPair (h : HoldsPair p v s t) : pairNat t p = v.toNat := by
  cases p with
  | sp => exact congrArg BitVec.toNat h
  | bc | de | hl =>
    obtain ⟨hhigh, hlow, -⟩ := h
    simp only [pairNat, hhigh, hlow, hiByte_toNat, loByte_toNat]
    omega

theorem sp_of_holdsPair (h : HoldsPair p v s t) (hp : p ≠ .sp) : t.sp = s.sp := by
  cases p with
  | sp => contradiction
  | bc | de | hl => exact h.2.2

end Sys2Proof

namespace Sys2Proof.Machine

/-! ### Frames of the effects -/

namespace ChangesOnly

variable {regs : List Reg} {bytes : List Word} {s u : State}

theorem mono_regs {regs' : List Reg} (h : ChangesOnly regs bytes s u) (hsub : regs ⊆ regs') :
    ChangesOnly regs' bytes s u :=
  { h with regs := fun q hm hq => h.regs q hm fun hmem => hq (hsub hmem) }

theorem withFlags (h : ChangesOnly regs bytes s u) (f : Byte) : ChangesOnly regs bytes s { u with flags := f } :=
  h.withFlagsSpPc f u.sp u.pc

theorem setAlu (h : ChangesOnly regs bytes s u) (x : AluResult) : ChangesOnly (.a :: regs) bytes s (u.setAlu x) :=
  (h.setReg (r := .a) nofun x.r).withFlags (flagsArith x.r x.cy x.ac)

/-- A write of an operand changes the register, or for M the byte at HL alone. -/
theorem setOperand (h : ChangesOnly regs bytes s u) (r : Reg) (v : Byte) :
    ChangesOnly (r :: regs) ((if r = .m then [u.hl] else []) ++ bytes) s (u.setReg r v) := by
  by_cases hr : r = .m
  · subst hr
    exact (h.memWrite u.hl v).mono_regs (List.subset_cons_self .m regs)
  · simpa [hr] using h.setReg hr v

end ChangesOnly

@[simp] theorem State.setFlagsKeepCarry_reg (s : State) (v : Byte) (ac : Bool) (r : Reg) :
    (s.setFlagsKeepCarry v ac).reg r = s.reg r := by cases r <;> rfl

/-! ### Instructions that write A, an operand or a pair -/

section
variable {s : State} {i : Instr} {taken : Bool} {len : Nat}

/-- An instruction that moves PC on and writes A with its five flags. -/
theorem exec_of_setAlu {x : AluResult} (h : exec i s = complete i taken ((s.advance len).setAlu x)) :
    ∃ t, exec i s = .next t ∧ t.a = x.r ∧ FlagsOf t.flags t.a x.ac x.cy ∧ t.sp = s.sp ∧
      t.pc = s.pc + BitVec.ofNat 16 len ∧ Frame [.a] [] (cyclesOf i taken) s t :=
  ⟨_, h, by simp, by simpa using flagsArith_flagsOf x.r x.cy x.ac, by simp, by simp,
    (((ChangesOnly.refl s).advance len).setAlu x).frame_account _⟩

/-- An instruction that adds to A. -/
theorem exec_of_addToA {v : Byte} {cin : Bool} (h : exec i s = complete i taken ((s.advance len).addToA v cin)) :
    ∃ t, exec i s = .next t ∧ AddsToA v cin s t ∧ t.sp = s.sp ∧ t.pc = s.pc + BitVec.ofNat 16 len ∧
      Frame [.a] [] (cyclesOf i taken) s t := by
  obtain ⟨t, hexec, ha, hflags, hrest⟩ := exec_of_setAlu h
  exact ⟨t, hexec, ⟨(congrArg BitVec.toNat ha).trans (add8_r_toNat s.a v cin), hflags⟩, hrest⟩

/-- An instruction that subtracts from A. -/
theorem exec_of_subFromA {v : Byte} {bin : Bool} (h : exec i s = complete i taken ((s.advance len).subFromA v bin)) :
    ∃ t, exec i s = .next t ∧ SubtractsFromA v bin s t.a t.flags ∧ t.sp = s.sp ∧ t.pc = s.pc + BitVec.ofNat 16 len ∧
      Frame [.a] [] (cyclesOf i taken) s t := by
  obtain ⟨t, hexec, ha, hflags, hrest⟩ := exec_of_setAlu h
  exact ⟨t, hexec, ⟨(congrArg BitVec.toNat ha).trans (sub8_r_toNat s.a v bin), hflags⟩, hrest⟩

/-- An instruction that moves PC on and writes an operand with the flags of its result, the carry kept. -/
theorem exec_of_setFlagsKeepCarry {r : Reg} {v : Byte} {ac : Bool}
    (h : exec i s = complete i taken (((s.advance len).setReg r v).setFlagsKeepCarry v ac)) :
    ∃ t, exec i s = .next t ∧ t.reg r = v ∧ FlagsOf t.flags (t.reg r) ac (carryOf s) ∧ t.sp = s.sp ∧
      t.pc = s.pc + BitVec.ofNat 16 len ∧ Frame [r] (if r = .m then [s.hl] else []) (cyclesOf i taken) s t := by
  have hchanges := (((ChangesOnly.refl s).advance len).setOperand r v).withFlags
    (setFlagC (flagsArith v false ac) (flagC s.flags))
  refine ⟨_, h, by simp, ?_, by simp, by simp, ?_⟩
  · change FlagsOf _ _ ac (flagC s.flags)
    simpa [setFlagC_flagsArith] using flagsArith_flagsOf v (flagC s.flags) ac
  · simpa [State.setFlagsKeepCarry] using hchanges.frame_account (cyclesOf i taken)

/-- An instruction that moves PC on and writes one pair and the carry. -/
theorem exec_of_setPair_setCarry {p : RegPair} {v : Word} {cy : Bool}
    (h : exec i s = complete i taken (((s.advance len).setPair p v).setCarry cy)) :
    ∃ t, exec i s = .next t ∧ HoldsPair p v s t ∧ t.flags = setFlagC s.flags cy ∧ t.pc = s.pc + BitVec.ofNat 16 len ∧
      Frame (pairRegs p) [] (cyclesOf i taken) s t := by
  have hchanges := (((ChangesOnly.refl s).advance len).setPair p v).withFlags (setFlagC s.flags cy)
  refine ⟨_, h, by cases p <;> simp [HoldsPair, State.setPair], by simp, by simp, ?_⟩
  simpa [State.setCarry] using hchanges.frame_account (cyclesOf i taken)

end

/-! ### The statements -/

/-- Settles O19: each of the four adds to A. -/
theorem addFamily : Obligations.AddFamily := fun _ _ _ =>
  ⟨exec_of_addToA rfl, exec_of_addToA rfl, exec_of_addToA rfl, exec_of_addToA rfl⟩

/-- Settles O20: each of the four subtracts from A. -/
theorem subtractFamily : Obligations.SubtractFamily := fun _ _ _ =>
  ⟨exec_of_subFromA rfl, exec_of_subFromA rfl, exec_of_subFromA rfl, exec_of_subFromA rfl⟩

/-- Settles O23: each of the two writes its operand, and the flags of adding or subtracting 1 with the carry before. -/
theorem inrAndDcrKeepCarry : Obligations.InrAndDcrKeepCarry := by
  refine fun dst s => ⟨?_, ?_⟩
  · obtain ⟨t, hexec, hreg, hflags, hrest⟩ := exec_of_setFlagsKeepCarry (i := .inr dst) (s := s) (taken := false) rfl
    rw [add8_one_ac] at hflags
    exact ⟨t, hexec, (congrArg BitVec.toNat hreg).trans (add8_r_toNat (s.reg dst) 0x01#8 false), hflags, hrest⟩
  · obtain ⟨t, hexec, hreg, hflags, hrest⟩ := exec_of_setFlagsKeepCarry (i := .dcr dst) (s := s) (taken := false) rfl
    rw [sub8_one_ac] at hflags
    exact ⟨t, hexec, (congrArg BitVec.toNat hreg).trans (sub8_r_toNat (s.reg dst) 0x01#8 false), hflags, hrest⟩

/-- Settles O24: each of the two writes one pair and no flag. -/
theorem inxAndDcxChangeNoFlag : Obligations.InxAndDcxChangeNoFlag := by
  refine fun p s => ⟨⟨congrArg (· :: []) (opPair_eq_ofNat p 0b0011#4), ?_⟩,
    congrArg (· :: []) (opPair_eq_ofNat p 0b1011#4), ?_⟩
  · obtain ⟨t, hexec, hholds, hrest⟩ := exec_of_setPair (i := .inx p) (s := s) (taken := false) rfl
    refine ⟨t, hexec, ?_, sp_of_holdsPair hholds, hrest⟩
    rw [pairNat_of_holdsPair hholds, BitVec.toNat_add, pair_toNat]
    rfl
  · obtain ⟨t, hexec, hholds, hrest⟩ := exec_of_setPair (i := .dcx p) (s := s) (taken := false) rfl
    refine ⟨t, hexec, ?_, sp_of_holdsPair hholds, hrest⟩
    rw [pairNat_of_holdsPair hholds, BitVec.toNat_sub, pair_toNat, Nat.add_comm]
    rfl

/-- Settles O25: DAD writes the pair HL and the carry bit. -/
theorem dadAddsToHl : Obligations.DadAddsToHl := by
  refine fun p s => ⟨congrArg (· :: []) (opPair_eq_ofNat p 0b1001#4), ?_⟩
  obtain ⟨t, hexec, hholds, hflags, hpc, hframe⟩ := exec_of_setPair_setCarry (i := .dad p) (s := s) (taken := false) rfl
  refine ⟨t, hexec, ?_, ?_, sp_of_holdsPair hholds nofun, hpc, hframe⟩
  · rw [pairNat_of_holdsPair hholds, ← pair_toNat, ← pair_toNat]
    exact BitVec.toNat_ofNat _ 16
  · rw [hflags, ← pair_toNat, ← pair_toNat]
    exact setFlagC_onlyCarry _ _

/-- Settles O26: DAA writes A with its five flags, from the nibbles and flags before it. -/
theorem daaAdjustsA : Obligations.DaaAdjustsA := by
  intro s low high highDue corr
  have hcorr : (daaCorr s.a s.flags).toNat = corr := daaCorr_toNat s.a s.flags
  obtain ⟨t, hexec, ha, hflags, hrest⟩ := exec_of_setAlu (i := .daa) (s := s) (taken := false) rfl
  rw [← hcorr]
  exact ⟨t, hexec, (congrArg BitVec.toNat ha).trans (BitVec.toNat_add _ _), hflags, hrest⟩

end Sys2Proof.Machine
end

section
/-! The logical, compare, rotate and flag instructions (42_logical.md R180 to R194): each moves PC past its bytes and writes A,
its flags or both. -/

namespace Sys2Proof.Machine

/-! ### The Zero flag of a difference (41_arithmetic.md R140, R143) -/

theorem flagZ_flagsArith (r : Byte) (cy ac : Bool) : flagZ (flagsArith r cy ac) = decide (r = 0x00#8) := by
  simp only [flagZ, flagsArith, BitVec.getLsbD_or, apply_ite (BitVec.getLsbD · 6)]
  simp

theorem sub8_r_eq_zero_iff (a v : Byte) : (sub8 a v false).r = 0x00#8 ↔ a = v := by
  change a - v - 0x00#8 = 0x00#8 ↔ a = v
  rw [BitVec.sub_zero, BitVec.sub_eq_iff_eq_add, BitVec.zero_add]

/-! ### The bits of a rotated byte (R188 to R191) -/

theorem bitAt_getLsbD (b : Bool) {j : Nat} (hj : j < 8) (k : Nat) : (bitAt b j).getLsbD k = (decide (j = k) && b) := by
  cases b with
  | false => simp [bitAt]
  | true =>
    change (BitVec.twoPow 8 j).getLsbD k = _
    simp [BitVec.getLsbD_twoPow, hj]

theorem shiftLeft_or_bitAt_getLsbD (v : Byte) (b : Bool) {k : Nat} (hk : k < 8) :
    ((v <<< 1) ||| bitAt b 0).getLsbD k = if k = 0 then b else v.getLsbD (k - 1) := by
  rw [BitVec.getLsbD_or, BitVec.getLsbD_shiftLeft, bitAt_getLsbD b (by decide)]
  by_cases h0 : k = 0
  · simp [h0]
  · have hpos : ¬ k < 1 := by omega
    simp [h0, hk, hpos, Ne.symm h0]

theorem ushiftRight_or_bitAt_getLsbD (v : Byte) (b : Bool) (k : Nat) :
    ((v >>> 1) ||| bitAt b 7).getLsbD k = if k = 7 then b else v.getLsbD (k + 1) := by
  rw [BitVec.getLsbD_or, BitVec.getLsbD_ushiftRight, bitAt_getLsbD b (by decide), Nat.add_comm]
  by_cases h7 : k = 7
  · simp [h7]
  · simp [h7, Ne.symm h7]

/-! ### Instructions that write A and flags -/

theorem ChangesOnly.setRotated {regs : List Reg} {bytes : List Word} {s u : State} (h : ChangesOnly regs bytes s u) (r : Byte)
    (cy : Bool) : ChangesOnly (.a :: regs) bytes s (u.setRotated r cy) :=
  (h.setReg (r := .a) nofun r).withFlags (setFlagC u.flags cy)

section
variable {s : State} {i : Instr} {taken : Bool} {len : Nat}

/-- An instruction that moves PC on and writes A with the flags of a logical operation. -/
theorem exec_of_setLogic {r : Byte} (h : exec i s = complete i taken ((s.advance len).setLogic r)) :
    ∃ t, exec i s = .next t ∧ t.a = r ∧ FlagsOf t.flags t.a false false ∧ t.sp = s.sp ∧
      t.pc = s.pc + BitVec.ofNat 16 len ∧ Frame [.a] [] (cyclesOf i taken) s t :=
  exec_of_setAlu (x := ⟨r, false, false⟩) h

/-- An instruction that moves PC on and writes the five flags of a subtraction from A. -/
theorem exec_of_compareA {v : Byte} (h : exec i s = complete i taken ((s.advance len).compareA v)) :
    ∃ t r, exec i s = .next t ∧ SubtractsFromA v false s r t.flags ∧ t.flags.getLsbD 6 = decide (s.a = v) ∧ t.sp = s.sp ∧
      t.pc = s.pc + BitVec.ofNat 16 len ∧ Frame [] [] (cyclesOf i taken) s t := by
  have hchanges := ((ChangesOnly.refl s).advance len).withFlags ((s.advance len).compareA v).flags
  refine ⟨_, (sub8 s.a v false).r, h, ⟨sub8_r_toNat s.a v false, ?_⟩, ?_, by simp, by simp,
    hchanges.frame_account (cyclesOf i taken)⟩
  · rw [State.account_flags]
    exact flagsArith_flagsOf _ _ _
  · rw [State.account_flags]
    exact (flagZ_flagsArith _ _ _).trans (decide_eq_decide.2 (sub8_r_eq_zero_iff s.a v))

/-- An instruction that moves PC on and writes A and the carry. -/
theorem exec_of_setRotated {r : Byte} {cy : Bool} (h : exec i s = complete i taken ((s.advance len).setRotated r cy)) :
    ∃ t, exec i s = .next t ∧ t.a = r ∧ OnlyCarry s.flags t.flags cy ∧ t.sp = s.sp ∧ t.pc = s.pc + BitVec.ofNat 16 len ∧
      Frame [.a] [] (cyclesOf i taken) s t :=
  ⟨_, h, by simp, by simpa using setFlagC_onlyCarry s.flags cy, by simp, by simp,
    (((ChangesOnly.refl s).advance len).setRotated r cy).frame_account _⟩

/-- A rotation of A up, with `b` coming in at bit 0. -/
theorem exec_of_rotateUp {b cy : Bool}
    (h : exec i s = complete i taken ((s.advance len).setRotated ((s.a <<< 1) ||| bitAt b 0) cy)) :
    ∃ t, exec i s = .next t ∧ (∀ k, k < 8 → t.a.getLsbD k = if k = 0 then b else s.a.getLsbD (k - 1)) ∧
      OnlyCarry s.flags t.flags cy ∧ t.sp = s.sp ∧ t.pc = s.pc + BitVec.ofNat 16 len ∧
      Frame [.a] [] (cyclesOf i taken) s t := by
  obtain ⟨t, hexec, ha, hrest⟩ := exec_of_setRotated h
  exact ⟨t, hexec, fun k hk => ha ▸ shiftLeft_or_bitAt_getLsbD s.a b hk, hrest⟩

/-- A rotation of A down, with `b` coming in at bit 7. -/
theorem exec_of_rotateDown {b cy : Bool}
    (h : exec i s = complete i taken ((s.advance len).setRotated ((s.a >>> 1) ||| bitAt b 7) cy)) :
    ∃ t, exec i s = .next t ∧ (∀ k, k < 8 → t.a.getLsbD k = if k = 7 then b else s.a.getLsbD (k + 1)) ∧
      OnlyCarry s.flags t.flags cy ∧ t.sp = s.sp ∧ t.pc = s.pc + BitVec.ofNat 16 len ∧
      Frame [.a] [] (cyclesOf i taken) s t := by
  obtain ⟨t, hexec, ha, hrest⟩ := exec_of_setRotated h
  exact ⟨t, hexec, fun k _ => ha ▸ ushiftRight_or_bitAt_getLsbD s.a b k, hrest⟩

/-- An instruction that moves PC on and writes the carry. -/
theorem exec_of_setCarry {cy : Bool} (h : exec i s = complete i taken ((s.advance len).setCarry cy)) :
    ∃ t, exec i s = .next t ∧ OnlyCarry s.flags t.flags cy ∧ t.sp = s.sp ∧ t.pc = s.pc + BitVec.ofNat 16 len ∧
      Frame [] [] (cyclesOf i taken) s t :=
  ⟨_, h, by simpa using setFlagC_onlyCarry s.flags cy, by simp, by simp,
    (((ChangesOnly.refl s).advance len).withFlags (setFlagC s.flags cy)).frame_account _⟩

end

/-! ### The statements -/

/-- Settles O21: each of the two writes the flags of a subtraction, whose result is 0 exactly for equal bytes. -/
theorem compareFamily : Obligations.CompareFamily := fun _ _ _ => ⟨exec_of_compareA rfl, exec_of_compareA rfl⟩

/-- Settles O22: each of the six writes A with the flags of a logical operation. -/
theorem logicFamily : Obligations.LogicFamily := fun _ _ _ =>
  ⟨exec_of_setLogic rfl, exec_of_setLogic rfl, exec_of_setLogic rfl, exec_of_setLogic rfl, exec_of_setLogic rfl,
    exec_of_setLogic rfl⟩

/-- Settles O27: two of the four shift A up and two shift it down, each with one bit coming in. -/
theorem rotatesMoveEveryBit : Obligations.RotatesMoveEveryBit := fun _ =>
  ⟨exec_of_rotateUp rfl, exec_of_rotateDown rfl, exec_of_rotateUp rfl, exec_of_rotateDown rfl⟩

/-- Settles O28: CMA writes A alone, and each of the other two the carry alone. -/
theorem cmaStcCmc : Obligations.CmaStcCmc := by
  refine fun s => ⟨?_, exec_of_setCarry rfl, exec_of_setCarry rfl⟩
  obtain ⟨t, hexec, ha, hrest⟩ := exec_of_setReg (r := .a) (i := .cma) (s := s) (taken := false) nofun rfl
  exact ⟨t, hexec, (congrArg BitVec.toNat ha).trans BitVec.toNat_not, hrest⟩

end Sys2Proof.Machine
end

section
/-! The control transfer instructions (43_branch.md R209 to R239, R250, R251): each moves PC past its bytes and then flows on,
jumps, calls or returns; a conditional one does so by one condition of R29. -/

namespace Sys2Proof.Machine

/-! ### Frames of the effects -/

namespace ChangesOnly

variable {regs : List Reg} {bytes : List Word} {s u : State}

theorem jumpTo (h : ChangesOnly regs bytes s u) (x : Word) : ChangesOnly regs bytes s (u.jumpTo x) :=
  h.withFlagsSpPc u.flags u.sp x

/-- A push changes the two bytes below SP alone. -/
theorem push16 (h : ChangesOnly regs bytes s u) (v : Word) :
    ChangesOnly regs ((u.sp - 1) :: (u.sp - 2) :: bytes) s (u.push16 v) :=
  (((h.memWrite (u.sp - 1) (hiByte v)).memWrite (u.sp - 2) (loByte v)).mono_bytes
    (List.Perm.swap (u.sp - 1) (u.sp - 2) bytes).subset).withFlagsSpPc u.flags (u.sp - 2) u.pc

theorem callTo (h : ChangesOnly regs bytes s u) (x : Word) :
    ChangesOnly regs ((u.sp - 1) :: (u.sp - 2) :: bytes) s (u.callTo x) :=
  (h.push16 u.pc).jumpTo x

theorem returnFromCall (h : ChangesOnly regs bytes s u) : ChangesOnly regs bytes s u.returnFromCall :=
  h.withFlagsSpPc u.flags (u.sp + 2) u.popValue

end ChangesOnly

/-! ### Transfers with and without a condition -/

section
variable (s : State) (cnd : Cond) (x : Word)

/-- A conditional jump is a jump whose target the condition chooses. -/
theorem State.jumpIf_eq_jumpTo : s.jumpIf cnd x = s.jumpTo (if s.cond cnd then x else s.pc) := by
  unfold State.jumpIf
  split <;> rfl

variable {s cnd}

theorem State.callIf_of_cond (h : s.cond cnd = true) : s.callIf cnd x = s.callTo x := if_pos h

theorem State.callIf_of_not_cond (h : ¬ s.cond cnd = true) : s.callIf cnd x = s := if_neg h

theorem State.returnIf_of_cond (h : s.cond cnd = true) : s.returnIf cnd = s.returnFromCall := if_pos h

theorem State.returnIf_of_not_cond (h : ¬ s.cond cnd = true) : s.returnIf cnd = s := if_neg h

end

/-! ### Instructions that flow on, jump, call or return -/

section
variable {s : State} {i : Instr} {taken : Bool} {len : Nat}

/-- An instruction that moves PC on and does nothing else. -/
theorem exec_of_advance (h : exec i s = complete i taken (s.advance len)) :
    OnlyFlowsOn len (cyclesOf i taken) s (exec i s) :=
  ⟨_, h, by simp [FlowsOn], ((ChangesOnly.refl s).advance len).frame_account _⟩

/-- An instruction that sets PC and does nothing else. -/
theorem exec_of_jumpTo {target : Word} (h : exec i s = complete i taken ((s.advance len).jumpTo target)) :
    ∃ t, exec i s = .next t ∧ t.pc = target ∧ t.flags = s.flags ∧ t.sp = s.sp ∧ Frame [] [] (cyclesOf i taken) s t :=
  ⟨_, h, by simp, by simp, by simp, (((ChangesOnly.refl s).advance len).jumpTo target).frame_account _⟩

/-- An instruction that pushes the address after it and sets PC. -/
theorem exec_of_callTo {target : Word} (h : exec i s = complete i taken ((s.advance len).callTo target)) :
    Calls target (s.pc + BitVec.ofNat 16 len) (cyclesOf i taken) s (exec i s) := by
  refine ⟨_, h, by simp, by simp, ?_, ?_, by simp, (((ChangesOnly.refl s).advance len).callTo target).frame_account _⟩
  all_goals simp [State.memRead_callTo]

/-- An instruction that pops PC. -/
theorem exec_of_returnFromCall (h : exec i s = complete i taken (s.advance len).returnFromCall) :
    Returns (cyclesOf i taken) s (exec i s) := by
  refine ⟨_, h, ?_, by simp, by simp, ((ChangesOnly.refl s).advance len).returnFromCall.frame_account _⟩
  rw [State.account_pc]
  exact mkWord_toNat _ _

end

/-! ### The conditional instructions, over their condition (R211, R221, R231) -/

section
variable (cnd : Cond) (addr : Word) (s : State)

theorem exec_decodeJcc : exec (decodeJcc cnd addr) s =
    complete (decodeJcc cnd addr) (s.cond cnd) ((s.advance 3).jumpIf cnd addr) := by
  cases cnd <;> rfl

theorem exec_decodeCcc : exec (decodeCcc cnd addr) s =
    complete (decodeCcc cnd addr) (s.cond cnd) ((s.advance 3).callIf cnd addr) := by
  cases cnd <;> rfl

theorem exec_decodeRcc : exec (decodeRcc cnd) s =
    complete (decodeRcc cnd) (s.cond cnd) ((s.advance 1).returnIf cnd) := by
  cases cnd <;> rfl

theorem cyclesOf_decodeJcc (taken : Bool) : cyclesOf (decodeJcc cnd addr) taken = 10 := by
  cases cnd <;> rfl

theorem cyclesOf_decodeCcc (taken : Bool) : cyclesOf (decodeCcc cnd addr) taken = if taken then 17 else 11 := by
  cases cnd <;> rfl

theorem cyclesOf_decodeRcc (taken : Bool) : cyclesOf (decodeRcc cnd) taken = if taken then 11 else 5 := by
  cases cnd <;> rfl

theorem jumpsIf_cond : JumpsIf (s.cond cnd) addr s (exec (decodeJcc cnd addr) s) := by
  have hexec := exec_decodeJcc cnd addr s
  rw [State.jumpIf_eq_jumpTo] at hexec
  have hjump := exec_of_jumpTo hexec
  rwa [cyclesOf_decodeJcc] at hjump

theorem calls_if_cond :
    if s.cond cnd then Calls addr (s.pc + 3) 17 s (exec (decodeCcc cnd addr) s)
    else OnlyFlowsOn 3 11 s (exec (decodeCcc cnd addr) s) := by
  have hexec := exec_decodeCcc cnd addr s
  split
  next htaken =>
    rw [State.callIf_of_cond (s := s.advance 3) addr htaken] at hexec
    have hcall := exec_of_callTo hexec
    rwa [cyclesOf_decodeCcc, if_pos htaken] at hcall
  next hnot =>
    rw [State.callIf_of_not_cond (s := s.advance 3) addr hnot] at hexec
    have hflow := exec_of_advance hexec
    rwa [cyclesOf_decodeCcc, if_neg hnot] at hflow

theorem returns_if_cond :
    if s.cond cnd then Returns 11 s (exec (decodeRcc cnd) s) else OnlyFlowsOn 1 5 s (exec (decodeRcc cnd) s) := by
  have hexec := exec_decodeRcc cnd s
  split
  next htaken =>
    rw [State.returnIf_of_cond (s := s.advance 1) htaken] at hexec
    have hreturn := exec_of_returnFromCall hexec
    rwa [cyclesOf_decodeRcc, if_pos htaken] at hreturn
  next hnot =>
    rw [State.returnIf_of_not_cond (s := s.advance 1) hnot] at hexec
    have hflow := exec_of_advance hexec
    rwa [cyclesOf_decodeRcc, if_neg hnot] at hflow

end

/-! ### The statements -/

/-- Settles O29: each of the two sets PC alone, PCHL to the word of its two bytes. -/
theorem jmpAndPchlJump : Obligations.JmpAndPchlJump := by
  refine fun addr s => ⟨exec_of_jumpTo (i := .jmp addr) rfl, ?_⟩
  obtain ⟨t, hexec, hpc, hrest⟩ := exec_of_jumpTo (i := .pchl) (s := s) (taken := true) rfl
  exact ⟨t, hexec, (congrArg BitVec.toNat hpc).trans (mkWord_toNat s.h s.l), hrest⟩

/-- Settles O30: the conditions of the eight are those of R29, in the order of their codes. -/
theorem conditionalJumps : Obligations.ConditionalJumps := fun addr s =>
  ⟨jumpsIf_cond .nz addr s, jumpsIf_cond .z addr s, jumpsIf_cond .nc addr s, jumpsIf_cond .c addr s,
    jumpsIf_cond .po addr s, jumpsIf_cond .pe addr s, jumpsIf_cond .p addr s, jumpsIf_cond .m addr s⟩

/-- Settles O31: each of the two pushes the PC past its bytes. -/
theorem callAndRstPushPc : Obligations.CallAndRstPushPc := fun addr n _ =>
  ⟨exec_of_callTo (i := .call addr) rfl, exec_of_callTo (i := .rst n) rfl⟩

/-- Settles O32: the conditions of the eight are those of R29, in the order of their codes. -/
theorem conditionalCalls : Obligations.ConditionalCalls := fun addr s =>
  ⟨calls_if_cond .nz addr s, calls_if_cond .z addr s, calls_if_cond .nc addr s, calls_if_cond .c addr s,
    calls_if_cond .po addr s, calls_if_cond .pe addr s, calls_if_cond .p addr s, calls_if_cond .m addr s⟩

/-- Settles O33: RET pops PC. -/
theorem retPopsPc : Obligations.RetPopsPc := fun _ => exec_of_returnFromCall (i := .ret) rfl

/-- Settles O34: the conditions of the eight are those of R29, in the order of their codes. -/
theorem conditionalReturns : Obligations.ConditionalReturns := fun s =>
  ⟨returns_if_cond .nz s, returns_if_cond .z s, returns_if_cond .nc s, returns_if_cond .c s, returns_if_cond .po s,
    returns_if_cond .pe s, returns_if_cond .p s, returns_if_cond .m s⟩

end Sys2Proof.Machine
end

section
/-! The stack instructions (44_stack_io_control.md R260 to R265): a push stores the two bytes of a word below SP, a pop loads
them from SP. PSW pushes and pops as the other pairs do, but through `norm` (10_state.md R27, R28). -/

namespace Sys2Proof.Machine

/-! ### The flags byte on the stack -/

theorem norm_getLsbD (v : Byte) {k : Nat} (hk : k < 8) :
    (norm v).getLsbD k = if k = 1 then true else if k = 3 ∨ k = 5 then false else v.getLsbD k := by
  rw [norm, BitVec.getLsbD_or, BitVec.getLsbD_and]
  interval_cases k <;> simp

/-! ### What a push and a pop do -/

/-- The registers of a pair in the push and pop encoding; FLAGS of PSW is not among them (10_state.md R25, R28). -/
def pushPairRegs : PushPair → List Reg
  | .bc => [.b, .c]
  | .de => [.d, .e]
  | .hl => [.h, .l]
  | .psw => [.a]

/-- The pair `p` holds `v` in `t`, the high byte in its first-named register, and FLAGS is unchanged for a pair of registers;
the low byte of PSW has gone through `norm` (R25, R28). -/
def HoldsPushPair (p : PushPair) (v : Word) (s t : State) : Prop :=
  match p with
  | .bc => t.b = hiByte v ∧ t.c = loByte v ∧ t.flags = s.flags
  | .de => t.d = hiByte v ∧ t.e = loByte v ∧ t.flags = s.flags
  | .hl => t.h = hiByte v ∧ t.l = loByte v ∧ t.flags = s.flags
  | .psw => t.a = hiByte v ∧ t.flags = norm (loByte v)

theorem holdsPushPair_account_setPushPair {s u : State} (hflags : u.flags = s.flags) (p : PushPair) (v : Word) (n : Nat) :
    HoldsPushPair p v s ((u.setPushPair p v).account n) := by
  cases p <;> simp [HoldsPushPair, State.setPushPair, State.setPair, hflags]

theorem pushPair_of_holdsPushPair {p : PushPair} {v : Word} {s t : State} (hp : p.isRegPair = true)
    (h : HoldsPushPair p v s t) : t.pushPair p = v := by
  cases p with
  | psw => cases hp
  | bc | de | hl =>
    obtain ⟨hhigh, hlow, -⟩ := h
    simp [State.pushPair, State.pair, State.hl, hhigh, hlow]

namespace ChangesOnly

variable {regs : List Reg} {bytes : List Word} {s u : State}

theorem popped (h : ChangesOnly regs bytes s u) : ChangesOnly regs bytes s u.popped :=
  h.withFlagsSpPc u.flags (u.sp + 2) u.pc

theorem setPushPair (h : ChangesOnly regs bytes s u) (p : PushPair) (v : Word) :
    ChangesOnly (pushPairRegs p ++ regs) bytes s (u.setPushPair p v) := by
  cases p with
  | bc => exact h.setPair .bc v
  | de => exact h.setPair .de v
  | hl => exact h.setPair .hl v
  | psw => exact (h.setReg (r := .a) nofun (hiByte v)).withFlags (norm (loByte v))

end ChangesOnly

section
variable {s : State} {i : Instr} {taken : Bool} {len : Nat}

/-- An instruction that moves PC on and pushes a word: a pop from the state it leaves answers that word. -/
theorem exec_of_push16 {v : Word} (h : exec i s = complete i taken ((s.advance len).push16 v)) :
    ∃ t, exec i s = .next t ∧ t.popValue = v ∧ t.memRead (s.sp - 1) = hiByte v ∧ t.memRead (s.sp - 2) = loByte v ∧
      t.sp = s.sp - 2 ∧ t.flags = s.flags ∧ t.pc = s.pc + BitVec.ofNat 16 len ∧
      Frame [] [s.sp - 1, s.sp - 2] (cyclesOf i taken) s t := by
  have hpop := State.popValue_of_mem_sp (State.account_mem ((s.advance len).push16 v) (cyclesOf i taken))
    (State.account_sp _ _)
  refine ⟨_, h, hpop.trans (State.popValue_push16 _ v), ?_, ?_, by simp, by simp, by simp,
    (((ChangesOnly.refl s).advance len).push16 v).frame_account _⟩
  all_goals simp [State.memRead_push16]

/-- An instruction that moves PC on and pops a pair. -/
theorem exec_of_popped_setPushPair {p : PushPair}
    (h : exec i s = complete i taken ((s.advance len).popped.setPushPair p s.popValue)) :
    ∃ t, exec i s = .next t ∧ HoldsPushPair p s.popValue s t ∧ t.sp = s.sp + 2 ∧ t.pc = s.pc + BitVec.ofNat 16 len ∧
      Frame (pushPairRegs p) [] (cyclesOf i taken) s t := by
  refine ⟨_, h, holdsPushPair_account_setPushPair rfl p _ _, by simp, by simp, ?_⟩
  simpa using (((ChangesOnly.refl s).advance len).popped.setPushPair p s.popValue).frame_account (cyclesOf i taken)

end

/-! ### PUSH, POP and XTHL -/

section
variable (p : PushPair) (s : State)

theorem exec_push :
    ∃ t, exec (.push p) s = .next t ∧ t.popValue = s.pushPair p ∧ t.memRead (s.sp - 1) = hiByte (s.pushPair p) ∧
      t.memRead (s.sp - 2) = loByte (s.pushPair p) ∧ t.sp = s.sp - 2 ∧ t.flags = s.flags ∧ t.pc = s.pc + 1 ∧
      Frame [] [s.sp - 1, s.sp - 2] 11 s t := exec_of_push16 (i := .push p) rfl

theorem exec_pushPsw :
    ∃ t, exec .pushPsw s = .next t ∧ t.popValue = s.psw ∧ t.memRead (s.sp - 1) = s.a ∧
      t.memRead (s.sp - 2) = norm s.flags ∧ t.sp = s.sp - 2 ∧ t.flags = s.flags ∧ t.pc = s.pc + 1 ∧
      Frame [] [s.sp - 1, s.sp - 2] 11 s t := by
  obtain ⟨t, hexec, hvalue, hhigh, hlow, hrest⟩ := exec_of_push16 (i := .pushPsw) (s := s) (taken := false) rfl
  exact ⟨t, hexec, hvalue, hhigh.trans (hiByte_mkWord _ _), hlow.trans (loByte_mkWord _ _), hrest⟩

theorem exec_pop :
    ∃ t, exec (.pop p) s = .next t ∧ HoldsPushPair p s.popValue s t ∧ t.sp = s.sp + 2 ∧ t.pc = s.pc + 1 ∧
      Frame (pushPairRegs p) [] 10 s t := exec_of_popped_setPushPair (i := .pop p) rfl

theorem exec_popPsw :
    ∃ t, exec .popPsw s = .next t ∧ HoldsPushPair .psw s.popValue s t ∧ t.sp = s.sp + 2 ∧ t.pc = s.pc + 1 ∧
      Frame [.a] [] 10 s t := exec_of_popped_setPushPair (i := .popPsw) (p := .psw) rfl

/-- The two stores of XTHL are one store of the word HL at SP. -/
theorem exec_xthl_eq : exec .xthl s =
    complete .xthl false (((s.advance 1).memWrite16 s.sp s.hl).setPair .hl s.popValue) := by
  simp only [State.memWrite16, State.hl, loByte_mkWord, hiByte_mkWord]
  rfl

end

/-! ### The statements -/

/-- Settles O35: both push the two bytes of a word, PSW with its low byte through `norm`. -/
theorem pushStoresBelowSp : Obligations.PushStoresBelowSp := by
  refine fun p s hp => ⟨?_, ?_⟩
  · obtain ⟨t, hexec, -, hhigh, hlow, hsp, hflags, hpc, hframe⟩ := exec_push p s
    refine ⟨t, hexec, hsp, hflags, hpc, hframe, ?_⟩
    cases p with
    | psw => cases hp
    | bc | de | hl => exact ⟨hhigh.trans (hiByte_mkWord _ _), hlow.trans (loByte_mkWord _ _)⟩
  · obtain ⟨t, hexec, -, hhigh, hlow, hrest⟩ := exec_pushPsw s
    exact ⟨t, hexec, hhigh, fun k hk => hlow ▸ norm_getLsbD s.flags hk, hrest⟩

/-- Settles O36: both pop the word of the two bytes at SP, PSW with its low byte through `norm`. -/
theorem popLoadsFromSp : Obligations.PopLoadsFromSp := by
  refine fun p s hp => ⟨?_, ?_⟩
  · obtain ⟨t, hexec, hholds, hsp, hpc, hframe⟩ := exec_pop p s
    cases p with
    | psw => cases hp
    | bc | de | hl =>
      obtain ⟨hhigh, hlow, hflags⟩ := hholds
      exact ⟨t, hexec, hsp, hflags, hpc, hhigh.trans (hiByte_mkWord _ _), hlow.trans (loByte_mkWord _ _), hframe⟩
  · obtain ⟨t, hexec, ⟨ha, hflags⟩, hrest⟩ := exec_popPsw s
    rw [State.popValue, loByte_mkWord] at hflags
    exact ⟨t, hexec, ha.trans (hiByte_mkWord _ _), fun k hk => hflags ▸ norm_getLsbD (s.memRead s.sp) hk, hrest⟩

/-- Settles O37: XTHL stores HL at SP and loads it with the word that stood there. -/
theorem xthlSwapsHlWithStack : Obligations.XthlSwapsHlWithStack := by
  intro s
  have hchanges := (((ChangesOnly.refl s).advance 1).memWrite16 s.sp s.hl).setPair .hl s.popValue
  refine ⟨_, exec_xthl_eq s, ?_, ?_, ?_, ?_, by simp [FlowsOn, State.setPair], hchanges.frame_account 18⟩
  · simp [State.setPair, State.popValue]
  · simp [State.setPair, State.popValue]
  · simp [State.memRead_memWrite16, State.hl]
  · simp [State.memRead_memWrite16, State.hl]

/-- Settles O38: SPHL writes the pair SP. -/
theorem sphlLoadsSp : Obligations.SphlLoadsSp := by
  intro s
  obtain ⟨t, hexec, hsp, hrest⟩ := exec_of_setPair (i := .sphl) (p := .sp) (s := s) (taken := false) rfl
  exact ⟨t, hexec, (congrArg BitVec.toNat hsp).trans (mkWord_toNat s.h s.l), hrest⟩

/-- Settles O54: the pop answers the word pushed; for PSW that is A and a byte that `norm` keeps, and FLAGS when its fixed
bits are as R27 says. -/
theorem pushThenPopRestores : Obligations.PushThenPopRestores := by
  refine fun p s hp => ⟨?_, ?_⟩
  · obtain ⟨t, hpush, hvalue, -, -, hsp, -⟩ := exec_push p s
    obtain ⟨u, hpop, hholds, hsp', -⟩ := exec_pop p t
    refine ⟨t, u, hpush, hpop, (pushPair_of_holdsPushPair hp hholds).trans hvalue, ?_⟩
    rw [hsp', hsp, BitVec.sub_add_cancel]
  · obtain ⟨t, hpush, hvalue, -, hlow, hsp, -⟩ := exec_pushPsw s
    obtain ⟨u, hpop, ⟨ha, hflags⟩, hsp', -⟩ := exec_popPsw t
    simp only [hvalue, State.psw, hiByte_mkWord, loByte_mkWord] at ha hflags
    refine ⟨t, u, hpush, hpop, ha, ?_, fun hfixed => ?_, ?_, ?_⟩
    · rw [hsp', hsp, BitVec.sub_add_cancel]
    · rw [hflags, norm_of_flagsFixed (flagsFixed_norm s.flags), norm_of_flagsFixed hfixed]
    all_goals
      rw [hsp, hlow, norm_getLsbD s.flags (by decide)]
      rfl

end Sys2Proof.Machine
end

section
/-! The input and output instructions (44_stack_io_control.md R270, R271): the port chooses the timer, the floating bus or a
bound device (20_memory.md R60 to R64). -/

namespace Sys2Proof.Machine

/-! ### The device table -/

@[simp] theorem State.device_setDevice_self (s : State) (d : Config.DeviceId) (v : Config.DevState) :
    (s.setDevice d v).device d = v := Sparse.get_set_self _ _ d v

theorem State.device_setDevice_other (s : State) {d e : Config.DeviceId} (h : e ≠ d) (v : Config.DevState) :
    (s.setDevice d v).device e = s.device e := Sparse.get_set_other _ _ v h

theorem State.device_of_devState {s t : State} (h : t.devState = s.devState) (d : Config.DeviceId) :
    t.device d = s.device d := by
  simp [State.device, h]

/-! ### Ports, by what answers them -/

section
variable {s : State} {p : Byte}

theorem State.ioReadState_of_isTimerPort (hp : isTimerPort p = true) : s.ioReadState p = s := if_pos hp

section
variable (hp : ¬ isTimerPort p = true)
include hp

theorem State.ioReadValue_of_unbound (h : s.boundTo p = none) : s.ioReadValue p = 0xFF#8 := by
  rw [State.ioReadValue, if_neg hp, h]
  rfl

theorem State.ioReadState_of_unbound (h : s.boundTo p = none) : s.ioReadState p = s := by
  rw [State.ioReadState, if_neg hp, h]

theorem State.ioWrite_of_unbound (h : s.boundTo p = none) (v : Byte) : s.ioWrite p v = s := by
  rw [State.ioWrite, if_neg hp, h]

variable {d : Config.DeviceId} (h : s.boundTo p = some d)
include h

theorem State.ioReadValue_of_bound : s.ioReadValue p = (Config.deviceRead d (s.device d) p).1 := by
  rw [State.ioReadValue, if_neg hp, h]

theorem State.ioReadState_of_bound : s.ioReadState p = s.setDevice d (Config.deviceRead d (s.device d) p).2 := by
  rw [State.ioReadState, if_neg hp, h]

theorem State.ioWrite_of_bound (v : Byte) : s.ioWrite p v = s.setDevice d (Config.deviceWrite d (s.device d) p v) := by
  rw [State.ioWrite, if_neg hp, h]

end

end

section
variable (s : State)

theorem State.ioReadValue_ctl_toNat : (s.ioReadValue 0x32#8).toNat = 2 * s.tPending.toNat + s.tEnabled.toNat := by
  change ((if s.tPending then 0x02#8 else 0x00#8) ||| (if s.tEnabled then 0x01#8 else 0x00#8)).toNat = _
  cases s.tPending <;> cases s.tEnabled <;> rfl

theorem State.ioWrite_ctl (v : Byte) :
    s.ioWrite 0x32#8 v = { s with tEnabled := v.getLsbD 0, tPending := !v.getLsbD 1 && s.tPending } := by
  change s.timerWriteCtl v = _
  unfold State.timerWriteCtl
  cases v.getLsbD 1 <;> rfl

/-! ### Ports and PC -/

@[simp] theorem State.boundTo_advance (n : Nat) (p : Byte) : (s.advance n).boundTo p = s.boundTo p := rfl

theorem State.ioReadState_advance (n : Nat) (p : Byte) : (s.advance n).ioReadState p = (s.ioReadState p).advance n := by
  unfold State.ioReadState
  split
  · rfl
  · rw [State.boundTo_advance]
    cases s.boundTo p <;> rfl

theorem State.ioWrite_advance (n : Nat) (p v : Byte) : (s.advance n).ioWrite p v = (s.ioWrite p v).advance n := by
  unfold State.ioWrite
  split
  · unfold State.timerWrite
    split_ifs <;> rfl
  · rw [State.boundTo_advance]
    cases s.boundTo p <;> rfl

end

/-! ### Instructions that first change the devices, the timer or the control state, from `s` to `u` -/

section
variable {s u : State} {i : Instr} {taken : Bool} {len : Nat}

/-- An instruction that then moves PC on. -/
theorem exec_of_advance_from (h : exec i s = complete i taken (u.advance len)) :
    OnlyFlowsOn len (cyclesOf i taken) u (exec i s) :=
  ⟨_, h, by simp [FlowsOn], ((ChangesOnly.refl u).advance len).frame_account _⟩

/-- An instruction that then moves PC on and writes one register. -/
theorem exec_of_setReg_from {r : Reg} {v : Byte} (hr : r ≠ .m)
    (h : exec i s = complete i taken ((u.advance len).setReg r v)) :
    ∃ t, exec i s = .next t ∧ t.reg r = v ∧ FlowsOn len u t ∧ Frame [r] [] (cyclesOf i taken) u t :=
  ⟨_, h, by simp, by simp [FlowsOn], (((ChangesOnly.refl u).advance len).setReg hr v).frame_account _⟩

end

/-! ### IN and OUT -/

section
variable (p : Byte) (s : State)

theorem exec_inPort : ∃ t, exec (.inPort p) s = .next t ∧ t.a = s.ioReadValue p ∧ FlowsOn 2 s t ∧
    Frame [.a] [] 10 (s.ioReadState p) t := by
  have heffect : exec (.inPort p) s =
      complete (.inPort p) false (((s.ioReadState p).advance 2).setReg .a (s.ioReadValue p)) := by
    rw [← State.ioReadState_advance]
    rfl
  obtain ⟨t, hexec, ha, hflows, hframe⟩ := exec_of_setReg_from (r := .a) nofun heffect
  exact ⟨t, hexec, ha, by simpa [FlowsOn] using hflows, hframe⟩

theorem exec_outPort : ∃ t, exec (.outPort p) s = .next t ∧ FlowsOn 2 s t ∧ Frame [] [] 10 (s.ioWrite p s.a) t := by
  have heffect : exec (.outPort p) s = complete (.outPort p) false ((s.ioWrite p s.a).advance 2) := by
    rw [← State.ioWrite_advance]
    rfl
  obtain ⟨t, hexec, hflows, hframe⟩ := exec_of_advance_from heffect
  exact ⟨t, hexec, by simpa [FlowsOn] using hflows, hframe⟩

end

theorem devState_of_frame {regs : List Reg} {bytes : List Word} {n : Nat} {s t : State} (h : Frame regs bytes n s t) :
    t.devState = s.devState := by
  obtain ⟨-, -, ⟨-, -, -, hdevices⟩, -⟩ := h
  exact hdevices

/-! ### The statements -/

/-- Settles O39: IN writes A with what answers the port, after the change of DEVSTATE that the read makes. -/
theorem inReadsPort : Obligations.InReadsPort := by
  intro p s timer
  have htimer : isTimerPort p = true ↔ timer := isTimerPort_iff
  obtain ⟨t, hexec, ha, hflows, hframe⟩ := exec_inPort p s
  have hdev : t.devState = (s.ioReadState p).devState := devState_of_frame hframe
  have hfrom : { s with devState := t.devState } = s.ioReadState p := hdev ▸ (State.ioReadState_eq s p).symm
  refine ⟨t, hexec, hflows, hfrom ▸ hframe, ?_, ?_, ?_, ?_, ?_, ?_⟩
  · rintro rfl
    exact (congrArg BitVec.toNat ha).trans (loByte_toNat s.tReload)
  · rintro rfl
    exact (congrArg BitVec.toNat ha).trans (hiByte_toNat s.tReload)
  · rintro rfl
    exact (congrArg BitVec.toNat ha).trans (State.ioReadValue_ctl_toNat s)
  · intro hnot hunbound
    exact ha.trans (State.ioReadValue_of_unbound (htimer.not.mpr hnot) hunbound)
  · intro hquiet
    by_cases hp : isTimerPort p = true
    · rw [hdev, State.ioReadState_of_isTimerPort hp]
    · rw [hdev, State.ioReadState_of_unbound hp (hquiet.resolve_left (htimer.not.mp hp))]
  · intro d hnot hbound
    have hp := htimer.not.mpr hnot
    rw [State.ioReadState_of_bound hp hbound] at hdev
    refine ⟨ha.trans (State.ioReadValue_of_bound hp hbound), ?_, fun e he => ?_⟩
    · rw [State.device_of_devState hdev, State.device_setDevice_self]
    · rw [State.device_of_devState hdev, State.device_setDevice_other s he]

/-- Settles O40: OUT moves on from what the write to the port left, which is one change of the timer or of one device. -/
theorem outWritesPort : Obligations.OutWritesPort := by
  intro p s timer armed
  have htimer : isTimerPort p = true ↔ timer := isTimerPort_iff
  obtain ⟨t, hexec, hflows, hframe⟩ := exec_outPort p s
  refine ⟨t, hexec, hflows, ?_, ?_, ?_, ?_, ?_⟩
  · rintro rfl
    exact hframe
  · rintro rfl
    exact hframe
  · rintro rfl
    exact State.ioWrite_ctl s s.a ▸ hframe
  · intro hnot hunbound
    exact State.ioWrite_of_unbound (htimer.not.mpr hnot) hunbound s.a ▸ hframe
  · intro d hnot hbound
    rw [State.ioWrite_of_bound (htimer.not.mpr hnot) hbound] at hframe
    have hdev := devState_of_frame hframe
    refine ⟨hdev ▸ hframe, ?_, fun e he => ?_⟩
    · rw [State.device_of_devState hdev, State.device_setDevice_self]
    · rw [State.device_of_devState hdev, State.device_setDevice_other s he]

end Sys2Proof.Machine
end

section
/-! The machine-control instructions (44_stack_io_control.md R272 to R277), and that EI has no delay (92_eei_decisions.md D13). -/

namespace Sys2Proof.Machine

variable (s : State)

theorem exec_ei : OnlyFlowsOn 1 4 { s with inte := true } (exec .ei s) := exec_of_advance_from (i := .ei) (taken := false) rfl

/-- The cycles of EI do not clear a pending timer, so an interrupt is due after it (60_exceptions.md R302). -/
theorem interruptDue_of_exec_ei {s t : State} (hpending : s.tPending = true) (h : exec .ei s = .next t) :
    t.interruptDue = true := by
  obtain rfl := Host.Outcome.next.inj h
  simp [State.interruptDue, State.account_tPending_iff, hpending]

theorem fetchInstr_of_memRead_ei {s : State} (h : s.memRead s.pc = 0xFB#8) : s.fetchInstr = .ei := by
  rw [State.fetchInstr, h]
  rfl

/-- A delivery goes to the vector with the interrupted PC in the two bytes below SP (R305). -/
theorem deliveryStep_pushes_pc :
    s.deliveryStep.pc = 0x0038#16 ∧ s.deliveryStep.sp = s.sp - 2 ∧ s.deliveryStep.memRead (s.sp - 1) = hiByte s.pc ∧
      s.deliveryStep.memRead (s.sp - 2) = loByte s.pc := by
  refine ⟨by simp [State.deliveryStep, interruptVector], by simp [State.deliveryStep], ?_, ?_⟩
  all_goals simp [State.deliveryStep, State.memRead_deliverInterrupt]

/-! ### The statements -/

/-- Settles O41: each of the three moves on from a change of one bit of the control state. -/
theorem eiDiHltSetControl : Obligations.EiDiHltSetControl := fun s =>
  ⟨exec_ei s, exec_of_advance_from (u := { s with inte := false }) (i := .di) (taken := false) rfl,
    exec_of_advance_from (u := { s with halted := true }) (i := .hlt) (taken := false) rfl⟩

/-- Settles O42: each of the eight bytes decodes to its row, which moves PC on. -/
theorem nopsOnlyMoveOn : Obligations.NopsOnlyMoveOn := fun _ =>
  ⟨⟨rfl, exec_of_advance rfl⟩, ⟨rfl, exec_of_advance rfl⟩, ⟨rfl, exec_of_advance rfl⟩, ⟨rfl, exec_of_advance rfl⟩,
    ⟨rfl, exec_of_advance rfl⟩, ⟨rfl, exec_of_advance rfl⟩, ⟨rfl, exec_of_advance rfl⟩, rfl, exec_of_advance rfl⟩

/-- Settles O57: after EI an interrupt is due in a running machine, so the next step delivers it. -/
theorem eiTakesEffectAtOnce : Obligations.EiTakesEffectAtOnce := by
  intro s hfetch hbyte hpending
  obtain ⟨t, hexec, ⟨-, hsp, hpc⟩, -, -, ⟨-, hhalted, -⟩, -⟩ := exec_ei s
  have hstep : step s = .next t := by rw [step_of_fetching hfetch, fetchInstr_of_memRead_ei hbyte, hexec]
  have hrun : t.halted = false := hhalted.trans hfetch.1
  obtain ⟨hvector, hpushed, hhigh, hlow⟩ := deliveryStep_pushes_pc t
  rw [hsp] at hpushed hhigh hlow
  rw [hpc] at hhigh hlow
  exact ⟨t, _, hstep, step_of_interruptDue hrun (interruptDue_of_exec_ei hpending hexec), hvector, State.deliveryStep_inte,
    hpushed, hhigh, hlow⟩

end Sys2Proof.Machine
end

section
/-! The step by its three kinds (60_exceptions.md R300): the halted machine has none, a delivery pushes PC, and on the normal
path the step is the instruction decoded at PC, which stops the machine for the five illegal bytes. -/

namespace Sys2Proof

/-- The three bytes of a fetch decode to what `decodeOp` answers for them: the bytes that the instruction does not have are
left over. -/
theorem decode_three_bytes (op b2 b3 : Byte) :
    decode [op, b2, b3] = .ok (decodeOp op b2 b3, [op, b2, b3].drop (lengthOf op)) := by
  have h := decode_encode_append (decodeOp_wf op b2 b3) ([op, b2, b3].drop (lengthOf op))
  rwa [encode_decodeOp, List.take_append_drop] at h

end Sys2Proof

namespace Sys2Proof.Machine

variable {s : State}

/-- Before its cycles pass, a delivery is a call of the vector from the state with INTE and T_PENDING clear (R305). -/
theorem changesOnly_deliverInterrupt (s : State) :
    ChangesOnly [] [s.sp - 1, s.sp - 2] { s with inte := false, tPending := false } s.deliverInterrupt :=
  (ChangesOnly.refl { s with inte := false, tPending := false }).callTo interruptVector

theorem frame_deliveryStep (s : State) :
    Frame [] [s.sp - 1, s.sp - 2] 11 { s with inte := false, tPending := false } s.deliveryStep :=
  (changesOnly_deliverInterrupt s).frame_account intCycles

/-- The step at one of the five illegal bytes stops with the byte and its address (R310). -/
theorem step_of_memRead_illegal (hfetch : Fetching s)
    (hill : s.memRead s.pc ∈ [0xCB#8, 0xD9#8, 0xDD#8, 0xED#8, 0xFD#8]) :
    step s = .fault (.illegalOpcode (s.memRead s.pc) s.pc) := by
  have hstop : s.fetchInstr.stopByte = some (s.memRead s.pc) :=
    (decodeOp_stopByte _ _ _).trans (if_pos (List.mem_cons_of_mem _ hill))
  have hne : s.memRead s.pc ≠ 0x76#8 := fun heq => absurd (heq ▸ hill) (by decide)
  rw [step_of_fetching hfetch]
  exact exec_of_stopByte_illegal s hstop hne

/-! ### The statements -/

/-- Settles O9: a step tests HALTED before anything else. -/
theorem haltedMachineHasNoStep : Obligations.HaltedMachineHasNoStep := fun _ => step_of_halted

/-- Settles O6: the instruction fetched is the one that the three bytes decode to. -/
theorem stepRunsDecodedInstruction : Obligations.StepRunsDecodedInstruction := by
  intro s i rest hfetch hdecode
  cases (decode_three_bytes _ _ _).symm.trans hdecode
  exact step_of_fetching hfetch

/-- Settles O8: the step is the delivery, whose effect is a push of PC and a jump to the vector. -/
theorem stepDeliversInterrupt : Obligations.StepDeliversInterrupt := by
  intro s hrun hinte hpending
  have hdue : s.interruptDue = true := by simp [State.interruptDue, hinte, hpending]
  obtain ⟨hvector, hsp, hhigh, hlow⟩ := deliveryStep_pushes_pc s
  exact ⟨_, step_of_interruptDue hrun hdue, hvector, hsp, hhigh, hlow, State.deliveryStep_flags, frame_deliveryStep s⟩

/-- Settles O10: each illegal row stops with its byte, and the five bytes are the ones that decode to these rows. -/
theorem illegalOpcodeStops : Obligations.IllegalOpcodeStops := fun s =>
  ⟨exec_of_stopByte_illegal s rfl (by decide), exec_of_stopByte_illegal s rfl (by decide),
    exec_of_stopByte_illegal s rfl (by decide), exec_of_stopByte_illegal s rfl (by decide),
    exec_of_stopByte_illegal s rfl (by decide), step_of_memRead_illegal⟩

end Sys2Proof.Machine
end

section
/-! What a step does to the timer (60_exceptions.md R304, R320 to R325): a delivery or an OUT to a timer port changes it first,
and then the cycles of the step pass. -/

namespace Sys2Proof.Machine

variable {s t u : State} {n : Nat}

/-! ### The passing of cycles -/

/-- The pending bit after `n` cycles is the one before them, or set by their expiry (R325). -/
theorem tPending_iff_of_elapsed (h : Elapsed n u t) :
    t.tPending = true ↔ u.tPending = true ∨ (u.tEnabled = true ∧ u.tReload ≠ 0x0000#16 ∧ u.tCounter.toNat ≤ n) := by
  obtain ⟨-, -, -, hidle, hexpired, hrunning⟩ := h
  by_cases hoff : u.tEnabled = false ∨ u.tReload = 0x0000#16
  · rw [(hidle hoff).2]
    obtain hoff | hoff := hoff <;> simp [hoff]
  · obtain ⟨hen, hreload⟩ : u.tEnabled = true ∧ u.tReload ≠ 0x0000#16 := by simpa using hoff
    obtain hlt | hle := Nat.lt_or_ge n u.tCounter.toNat
    · simp [(hrunning hen hreload hlt).2, hlt]
    · simp [(hexpired hen hreload hle).2, hen, hreload, hle]

theorem elapsed_of_frame {regs : List Reg} {bytes : List Word} (h : Frame regs bytes n s t) : Elapsed n s t := by
  obtain ⟨-, -, -, helapsed⟩ := h
  exact helapsed

/-- Where a condition chooses the effect, cycles pass if they do after either one. -/
theorem elapsed_account_ite {c : Prop} [Decidable c] {v : State} (hu : Elapsed n s (u.account n))
    (hv : Elapsed n s (v.account n)) : Elapsed n s ((if c then u else v).account n) := by
  split_ifs
  · exact hu
  · exact hv

section
variable (s : State) (len : Nat) (cnd : Cond) (x : Word) (n : Nat)

theorem elapsed_account_jumpIf : Elapsed n s (((s.advance len).jumpIf cnd x).account n) := by
  have hstay := (ChangesOnly.refl s).advance len
  unfold State.jumpIf
  exact elapsed_account_ite (elapsed_of_frame ((hstay.jumpTo x).frame_account n)) (elapsed_of_frame (hstay.frame_account n))

theorem elapsed_account_callIf : Elapsed n s (((s.advance len).callIf cnd x).account n) := by
  have hstay := (ChangesOnly.refl s).advance len
  unfold State.callIf
  exact elapsed_account_ite (elapsed_of_frame ((hstay.callTo x).frame_account n)) (elapsed_of_frame (hstay.frame_account n))

theorem elapsed_account_returnIf : Elapsed n s (((s.advance len).returnIf cnd).account n) := by
  have hstay := (ChangesOnly.refl s).advance len
  unfold State.returnIf
  exact elapsed_account_ite (elapsed_of_frame (hstay.returnFromCall.frame_account n)) (elapsed_of_frame (hstay.frame_account n))

end

/-- An instruction that is not OUT only lets its cycles pass on the timer. -/
theorem exec_elapsed {i : Instr} (hout : i.opcode ≠ some 0xD3#8) (h : exec i s = .next t) : ∃ n, Elapsed n s t := by
  cases i
  case outPort => exact absurd rfl hout
  case illegalCB | illegalD9 | illegalDD | illegalED | illegalFD => cases h
  all_goals obtain rfl := Host.Outcome.next.inj h
  case jnz | jz | jnc | jc | jpo | jpe | jp | jm => exact ⟨_, elapsed_account_jumpIf _ _ _ _ _⟩
  case cnz | cz | cnc | cc | cpo | cpe | cp | cm => exact ⟨_, elapsed_account_callIf _ _ _ _ _⟩
  case rnz | rz | rnc | rc | rpo | rpe | rp | rm => exact ⟨_, elapsed_account_returnIf _ _ _ _⟩
  all_goals exact ⟨_, State.elapsed_account _ (by simp) (by simp) (by simp) (by simp) (by simp)⟩

/-! ### A write to a port -/

/-- A write to a port is one of the three writes to the timer, or changes DEVSTATE alone (20_memory.md R63). -/
theorem State.ioWrite_cases (s : State) (p v : Byte) :
    (p = 0x30#8 ∧ s.ioWrite p v = s.timerWriteLo v) ∨ (p = 0x31#8 ∧ s.ioWrite p v = s.timerWriteHi v) ∨
    (p = 0x32#8 ∧ s.ioWrite p v = s.timerWriteCtl v) ∨
    (¬ isTimerPort p = true ∧ ∃ devices, s.ioWrite p v = { s with devState := devices }) := by
  by_cases hp : isTimerPort p = true
  · obtain rfl | rfl | rfl := isTimerPort_iff.mp hp
    · exact .inl ⟨rfl, rfl⟩
    · exact .inr (.inl ⟨rfl, rfl⟩)
    · exact .inr (.inr (.inl ⟨rfl, rfl⟩))
  · refine .inr (.inr (.inr ⟨hp, ?_⟩))
    cases hbound : s.boundTo p with
    | none => exact ⟨s.devState, State.ioWrite_of_unbound hp hbound v⟩
    | some d => exact ⟨_, State.ioWrite_of_bound hp hbound v⟩

/-! ### What a step does to the timer before its cycles pass -/

/-- The timer and CYCLES_TOTAL of `u` are those that a step from `s` leaves before its cycles pass: a write of port 0x31 arms
the counter (R323), a delivery or an acknowledging write clears T_PENDING (R304), and the two settings are written by OUT
(R322 to R324). -/
structure TimerEffect (s u : State) : Prop where
  cyclesTotal : u.cyclesTotal = s.cyclesTotal
  armed : WritesPort 0x31#8 s → u.tCounter = u.tReload
  tCounter : ¬ WritesPort 0x31#8 s → u.tCounter = s.tCounter
  tPending : u.tPending = true ↔ s.tPending = true ∧ ¬ (s.interruptDue = true ∨ Acknowledges s)
  tReload : u.tReload ≠ s.tReload → WritesPort 0x30#8 s ∨ WritesPort 0x31#8 s
  tEnabled : u.tEnabled ≠ s.tEnabled → WritesPort 0x32#8 s

theorem not_writesPort_of_interruptDue (h : s.interruptDue = true) (p : Byte) : ¬ WritesPort p s :=
  fun ⟨⟨_, hnot⟩, _⟩ => Bool.false_ne_true (hnot.symm.trans h)

theorem not_writesPort_of_memRead_ne (h : s.memRead s.pc ≠ 0xD3#8) (p : Byte) : ¬ WritesPort p s :=
  fun ⟨_, hbyte, _⟩ => h hbyte

theorem writesPort_iff_of_memRead_out (hfetch : Fetching s) (hbyte : s.memRead s.pc = 0xD3#8) (p : Byte) :
    WritesPort p s ↔ s.memRead (s.pc + 1) = p := by
  simp [WritesPort, hfetch, hbyte]

theorem timerEffect_of_interruptDue (h : s.interruptDue = true) :
    TimerEffect s { s with inte := false, tPending := false } where
  cyclesTotal := rfl
  armed hport := absurd hport (not_writesPort_of_interruptDue h _)
  tCounter _ := rfl
  tPending := by simp [h]
  tReload hne := absurd rfl hne
  tEnabled hne := absurd rfl hne

theorem timerEffect_of_not_out (hfetch : Fetching s) (hbyte : s.memRead s.pc ≠ 0xD3#8) : TimerEffect s s where
  cyclesTotal := rfl
  armed hport := absurd hport (not_writesPort_of_memRead_ne hbyte _)
  tCounter _ := rfl
  tPending := by simp [Acknowledges, not_writesPort_of_memRead_ne hbyte, hfetch.2]
  tReload hne := absurd rfl hne
  tEnabled hne := absurd rfl hne

theorem timerEffect_of_out (hfetch : Fetching s) (hbyte : s.memRead s.pc = 0xD3#8) :
    TimerEffect s (s.ioWrite (s.memRead (s.pc + 1)) s.a) := by
  have hdue : s.interruptDue = false := hfetch.2
  have hwrites := writesPort_iff_of_memRead_out hfetch hbyte
  generalize s.memRead (s.pc + 1) = p at hwrites ⊢
  obtain ⟨rfl, hu⟩ | ⟨rfl, hu⟩ | ⟨rfl, hu⟩ | ⟨hp, devices, hu⟩ := s.ioWrite_cases p s.a
  · rw [hu]
    constructor <;> simp [Acknowledges, hwrites, hdue]
  · rw [hu]
    constructor <;> simp [Acknowledges, hwrites, hdue]
  · rw [hu]
    constructor <;> simp [Acknowledges, hwrites, hdue, and_comm]
  · obtain ⟨-, hhi, hctl⟩ : p ≠ 0x30#8 ∧ p ≠ 0x31#8 ∧ p ≠ 0x32#8 := by simpa [isTimerPort_iff] using hp
    rw [hu]
    constructor <;> simp [Acknowledges, hwrites, hhi, hctl, hdue]

theorem fetchInstr_of_memRead_out (h : s.memRead s.pc = 0xD3#8) : s.fetchInstr = .outPort (s.memRead (s.pc + 1)) := by
  rw [State.fetchInstr, h]
  rfl

/-- What a step does to the timer: one effect, then its cycles, which are 10 for a write of port 0x31. -/
theorem step_timerEffect (h : step s = .next t) :
    ∃ u n, TimerEffect s u ∧ Elapsed n u t ∧ (WritesPort 0x31#8 s → n = 10) := by
  obtain ⟨-, hdue, rfl⟩ | ⟨hfetch, hexec⟩ := step_next_cases h
  · exact ⟨_, 11, timerEffect_of_interruptDue hdue, elapsed_of_frame (frame_deliveryStep s),
      fun hport => absurd hport (not_writesPort_of_interruptDue hdue _)⟩
  · by_cases hbyte : s.memRead s.pc = 0xD3#8
    · obtain ⟨v, hv, -, hframe⟩ := exec_outPort (s.memRead (s.pc + 1)) s
      rw [fetchInstr_of_memRead_out hbyte] at hexec
      cases hv.symm.trans hexec
      exact ⟨_, 10, timerEffect_of_out hfetch hbyte, elapsed_of_frame hframe, fun _ => rfl⟩
    · have hopcode : s.fetchInstr.opcode ≠ some 0xD3#8 := fun hop =>
        hbyte (Option.some.inj (s.opcode_fetchInstr.symm.trans hop))
      obtain ⟨n, helapsed⟩ := exec_elapsed hopcode hexec
      exact ⟨s, n, timerEffect_of_not_out hfetch hbyte, helapsed,
        fun hport => absurd hport (not_writesPort_of_memRead_ne hbyte _)⟩

/-- The step expires when its cycles reach the counter that its effect leaves. -/
theorem expires_iff_of_timerEffect (heffect : TimerEffect s u) (helapsed : Elapsed n u t) :
    Expires n s t ↔ u.tEnabled = true ∧ u.tReload ≠ 0x0000#16 ∧ u.tCounter.toNat ≤ n := by
  obtain ⟨-, hreload, hen, -⟩ := helapsed
  rw [Expires, hreload, hen]
  by_cases hport : WritesPort 0x31#8 s
  · simp [hport, heffect.armed hport]
  · simp [hport, heffect.tCounter hport]

/-! ### The statements -/

/-- Settles O55: T_PENDING after the step is the one that its effect leaves, or set by the expiry. -/
theorem pendingIsSetOnlyByExpiry : Obligations.PendingIsSetOnlyByExpiry := by
  intro s t hstep
  obtain ⟨u, n, heffect, helapsed, harming⟩ := step_timerEffect hstep
  have hn : t.cyclesTotal - s.cyclesTotal = n := by
    rw [helapsed.1, heffect.cyclesTotal, Nat.add_sub_cancel_left]
  have hexpires := expires_iff_of_timerEffect heffect helapsed
  have hpending : t.tPending = true ↔
      (s.tPending = true ∧ ¬ (s.interruptDue = true ∨ Acknowledges s)) ∨ Expires n s t := by
    rw [tPending_iff_of_elapsed helapsed, heffect.tPending, hexpires]
  rw [hn]
  refine ⟨fun hclear => ?_, fun hexp => ⟨hpending.mpr (.inr hexp), ?_⟩, fun hset hnot => ?_, harming⟩
  · simp [hpending, hclear]
  · obtain ⟨hen, hreload, hle⟩ := hexpires.mp hexp
    obtain ⟨-, hkept, -, -, hexpired, -⟩ := helapsed
    rw [hkept, (hexpired hen hreload hle).1]
  · rw [← Bool.not_eq_true, hpending]
    simp only [hset, hnot, true_and, or_false, not_not]

/-- Settles O56: the cycles of the step keep the two settings, so a change of one is its effect, by OUT. -/
theorem timerSettingsChangeOnlyByOut : Obligations.TimerSettingsChangeOnlyByOut := by
  intro s t hstep
  obtain ⟨u, n, heffect, ⟨-, hreload, hen, -⟩, -⟩ := step_timerEffect hstep
  rw [hreload, hen]
  refine ⟨fun hne => ?_, heffect.tEnabled⟩
  obtain ⟨hfetch, hbyte, hport⟩ | ⟨hfetch, hbyte, hport⟩ := heffect.tReload hne
  · exact ⟨hfetch, hbyte, .inl hport⟩
  · exact ⟨hfetch, hbyte, .inr hport⟩

end Sys2Proof.Machine
end

section
/-! The cycles of a step (60_exceptions.md R301, 70_reset_and_hazards.md R363): CYCLES_TOTAL moves by one entry of the table,
or by the 11 of a delivery. -/

namespace Sys2Proof.Machine

variable {s t : State} {i : Instr}

section
variable (s : State) (cnd : Cond) (x : Word)

@[simp] theorem State.jumpIf_cyclesTotal : (s.jumpIf cnd x).cyclesTotal = s.cyclesTotal := by
  simp [State.jumpIf, apply_ite State.cyclesTotal]

@[simp] theorem State.callIf_cyclesTotal : (s.callIf cnd x).cyclesTotal = s.cyclesTotal := by
  simp [State.callIf, apply_ite State.cyclesTotal]

@[simp] theorem State.returnIf_cyclesTotal : (s.returnIf cnd).cyclesTotal = s.cyclesTotal := by
  simp [State.returnIf, apply_ite State.cyclesTotal]

@[simp] theorem State.deliveryStep_cyclesTotal : s.deliveryStep.cyclesTotal = s.cyclesTotal + 11 := by
  simp [State.deliveryStep, intCycles]

end

/-- An instruction that completes adds its entry of the table to CYCLES_TOTAL: nothing before its end writes the total. -/
theorem exec_cyclesTotal (h : exec i s = .next t) : ∃ taken, t.cyclesTotal = s.cyclesTotal + cyclesOf i taken := by
  cases i
  case illegalCB | illegalD9 | illegalDD | illegalED | illegalFD => cases h
  all_goals
    obtain rfl := Host.Outcome.next.inj h
    exact ⟨_, (State.account_cyclesTotal _ _).trans (congrArg (· + _) (by simp))⟩

/-! ### The bounds of the table -/

theorem cyclesByOperand_mem_Icc {register memory : Nat} (hr : register ∈ Set.Icc 4 18) (hm : memory ∈ Set.Icc 4 18) (r : Reg) :
    cyclesByOperand r register memory ∈ Set.Icc 4 18 := by
  unfold cyclesByOperand
  split_ifs
  · exact hm
  · exact hr

theorem cyclesByTaken_mem_Icc {yes no : Nat} (hyes : yes ∈ Set.Icc 4 18) (hno : no ∈ Set.Icc 4 18) (taken : Bool) :
    cyclesByTaken taken yes no ∈ Set.Icc 4 18 := by
  cases taken with
  | true => exact hyes
  | false => exact hno

/-- The entries of the table of the instructions that complete; the illegal bytes have none (R363). -/
theorem cyclesOf_mem_Icc (h : exec i s = .next t) (taken : Bool) : cyclesOf i taken ∈ Set.Icc 4 18 := by
  cases i
  case illegalCB | illegalD9 | illegalDD | illegalED | illegalFD => cases h
  case add r | adc r | sub r | sbb r | ana r | xra r | ora r | cmp r | inr r | dcr r =>
    exact cyclesByOperand_mem_Icc (by simp) (by simp) r
  case cnz | cz | cnc | cc | cpo | cpe | cp | cm | rnz | rz | rnc | rc | rpo | rpe | rp | rm =>
    exact cyclesByTaken_mem_Icc (by simp) (by simp) taken
  all_goals simp [cyclesOf]

/-- Settles O48: a delivery takes 11 cycles, and an instruction its entry of the table. -/
theorem stepTakesFourToEighteenCycles : Obligations.StepTakesFourToEighteenCycles := by
  intro s t hstep
  obtain ⟨-, -, rfl⟩ | ⟨-, hexec⟩ := step_next_cases hstep
  · rw [State.deliveryStep_cyclesTotal]
    omega
  · obtain ⟨taken, htotal⟩ := exec_cyclesTotal hexec
    obtain ⟨hleast, hmost⟩ := cyclesOf_mem_Icc hexec taken
    omega

end Sys2Proof.Machine
end

section
/-! The bytes that `load_program` places (70_reset_and_hazards.md R353): the addresses of at most 65536 of them are distinct,
so that no byte is written over by a later one. -/

namespace Sys2Proof

theorem add_ofNat_succ (start : Word) (k : Nat) : start + BitVec.ofNat 16 (k + 1) = start + 1 + BitVec.ofNat 16 k := by
  bv_omega

/-- Fewer than 65536 addresses on, the addresses have not wrapped back to the start. -/
theorem ne_add_ofNat_succ (start : Word) {k : Nat} (h : k + 1 < 65536) : start ≠ start + BitVec.ofNat 16 (k + 1) := by
  bv_omega

end Sys2Proof

namespace Sys2Proof.Machine

theorem State.placeBytes_eq (s : State) (start : Word) (bytes : List Byte) :
    s.placeBytes start bytes = { s with mem := (s.placeBytes start bytes).mem } := by
  induction bytes generalizing s start with
  | nil => rfl
  | cons v rest ih => exact ih (s.memWrite start v) (start + 1)

theorem State.memRead_placeBytes_other (s : State) {start x : Word} {bytes : List Byte}
    (h : ∀ k, k < bytes.length → x ≠ start + BitVec.ofNat 16 k) : (s.placeBytes start bytes).memRead x = s.memRead x := by
  induction bytes generalizing s start with
  | nil => rfl
  | cons v rest ih =>
    have hfirst : x ≠ start := by simpa using h 0 (Nat.succ_pos rest.length)
    have hrest : ∀ k, k < rest.length → x ≠ start + 1 + BitVec.ofNat 16 k := fun k hk =>
      add_ofNat_succ start k ▸ h (k + 1) (Nat.succ_lt_succ hk)
    exact (ih (s.memWrite start v) hrest).trans (State.memRead_memWrite_other s v hfirst)

theorem State.memRead_placeBytes (s : State) {start : Word} {bytes : List Byte} (hlength : bytes.length ≤ 65536) {k : Nat}
    {v : Byte} (h : bytes[k]? = some v) : (s.placeBytes start bytes).memRead (start + BitVec.ofNat 16 k) = v := by
  induction bytes generalizing s start k with
  | nil => cases h
  | cons w rest ih =>
    rw [List.length_cons] at hlength
    cases k with
    | zero =>
      obtain rfl : w = v := by simpa using h
      have hlater : ∀ j, j < rest.length → start ≠ start + 1 + BitVec.ofNat 16 j := fun j hj =>
        add_ofNat_succ start j ▸ ne_add_ofNat_succ start (by omega)
      rw [BitVec.add_zero, State.placeBytes, State.memRead_placeBytes_other _ hlater, State.memRead_memWrite_self]
    | succ k =>
      rw [add_ofNat_succ]
      exact ih (s.memWrite start w) (Nat.le_of_succ_le hlength) (by simpa using h)

/-- Settles O58, by induction along the bytes placed: the jump to the start reads no memory. -/
theorem loadProgramPlacesBytes : Obligations.LoadProgramPlacesBytes := by
  intro s bytes start hlength
  refine ⟨fun k v hk => ?_, fun x hx => ?_, ?_⟩
  · exact (State.jumpTo_memRead _ _ _).trans (s.memRead_placeBytes hlength hk)
  · exact (State.jumpTo_memRead _ _ _).trans (s.memRead_placeBytes_other hx)
  · exact congrArg (State.jumpTo · start) (s.placeBytes_eq start bytes)

end Sys2Proof.Machine
end

section
/-! The host's accessors and `bind` (70_reset_and_hazards.md R354, R355): what is read back after each write, and that nothing
else changes. -/

namespace Sys2Proof

theorem loByte_getLsbD (v : Word) {k : Nat} (hk : k < 8) : (loByte v).getLsbD k = v.getLsbD k := by
  simp [loByte, hk]

end Sys2Proof

namespace Sys2Proof.Machine

variable (s : State)

/-! ### FLAGS -/

theorem Flag.bit_lt (f : Flag) : f.bit < 8 := by
  cases f <;> decide

/-- The write of one flag is the write of one bit (D20). -/
theorem State.hostSetFlag_getLsbD (f : Flag) (v : Bool) (k : Nat) :
    (s.hostSetFlag f v).flags.getLsbD k = if k = f.bit then v else s.flags.getLsbD k := by
  have hmask : (0x01#8 <<< f.bit).getLsbD k = decide (f.bit = k) :=
    (bitAt_getLsbD true f.bit_lt k).trans (Bool.and_true _)
  cases v with
  | true =>
    simp only [State.hostSetFlag, if_true, BitVec.getLsbD_or, hmask]
    by_cases hk : k = f.bit
    · simp [hk]
    · simp [hk, Ne.symm hk]
  | false =>
    simp only [State.hostSetFlag, Bool.false_eq_true, if_false, BitVec.getLsbD_and, BitVec.getLsbD_not, hmask]
    by_cases hk : k = f.bit
    · simp [hk]
    · simpa [hk, Ne.symm hk] using BitVec.lt_of_getLsbD

/-- `norm` keeps the bit of every flag. -/
theorem norm_getLsbD_bit (v : Byte) (f : Flag) : (norm v).getLsbD f.bit = v.getLsbD f.bit := by
  rw [norm_getLsbD v f.bit_lt]
  cases f <;> rfl

/-! ### Registers and pairs -/

theorem State.setReg_sameRegsBut (r : Reg) (v : Byte) : SameRegsBut [r] s (s.setReg r v) := fun _ hm hq =>
  State.setReg_reg_other s hm (List.ne_of_not_mem_cons hq) v

/-- The write of a register, or of the byte at HL for M, changes the registers and MEM alone (R23). -/
theorem State.setReg_restore (r : Reg) (v : Byte) :
    { s.setReg r v with a := s.a, b := s.b, c := s.c, d := s.d, e := s.e, h := s.h, l := s.l, mem := s.mem } = s := by
  cases r <;> rfl

theorem State.pairNat_setPair_self (p : RegPair) (v : Word) : pairNat (s.setPair p v) p = v.toNat := by
  rw [← pair_toNat, State.setPair_pair_self]

theorem State.setPair_sameRegsBut (p : RegPair) (v : Word) : SameRegsBut (pairRegs p) s (s.setPair p v) := by
  simpa using ((ChangesOnly.refl s).setPair p v).regs

theorem State.setPair_sp_of_ne {p : RegPair} (hp : p ≠ .sp) (v : Word) : (s.setPair p v).sp = s.sp := by
  cases p with
  | sp => contradiction
  | bc | de | hl => rfl

/-- The write of a pair changes the registers of the pairs and SP alone (R24). -/
theorem State.setPair_restore (p : RegPair) (v : Word) :
    { s.setPair p v with b := s.b, c := s.c, d := s.d, e := s.e, h := s.h, l := s.l, sp := s.sp } = s := by
  cases p <;> rfl

/-! ### PSW (10_state.md R28) -/

theorem State.setPsw_flags_getLsbD (v : Word) {k : Nat} (hk : k < 8) :
    (s.setPsw v).flags.getLsbD k = if k = 1 then true else if k = 3 ∨ k = 5 then false else v.getLsbD k := by
  rw [State.setPsw_flags, norm_getLsbD _ hk, loByte_getLsbD v hk]

/-- Where the fixed bits of FLAGS are as R27 says, PSW packs A and FLAGS as they are. -/
theorem State.psw_toNat_of_flagsFixed {s : State} (h : FlagsFixed s.flags) :
    s.psw.toNat = 256 * s.a.toNat + s.flags.toNat := by
  rw [State.psw, mkWord_toNat, norm_of_flagsFixed h]

/-! ### Port bindings -/

theorem State.boundTo_bind (p q : Byte) (d : Config.DeviceId) :
    (s.bind p d).boundTo q = if q = p then some d else s.boundTo q := by
  split_ifs with h
  · rw [h]
    exact Sparse.get_set_self none s.ioTab p.toNat (some d)
  · exact Sparse.get_set_other none s.ioTab (some d) fun e => h (BitVec.eq_of_toNat_eq e)

/-! ### The statement -/

/-- Settles O59: each clause is what one accessor writes, as above. -/
theorem hostAccessorsAndBind : Obligations.HostAccessorsAndBind := by
  intro s
  refine ⟨fun f v => ?_, fun v => ?_, fun r v => ?_, fun p v => ?_, fun p v => ?_, fun _ => ⟨rfl, rfl⟩, fun p q d => ?_⟩
  · exact ⟨(s.hostSetFlag_getLsbD f v f.bit).trans (if_pos rfl), fun k hk => (s.hostSetFlag_getLsbD f v k).trans (if_neg hk), rfl⟩
  · exact ⟨norm_getLsbD_bit v, flagsFixed_norm v, rfl⟩
  · exact ⟨s.setReg_reg_self r v, fun x hx => (s.memRead_setReg r v x).trans (if_neg hx), s.setReg_sameRegsBut r v,
      s.setReg_restore r v⟩
  · exact ⟨s.pairNat_setPair_self p v, s.setPair_sameRegsBut p v, fun hp => s.setPair_sp_of_ne hp v, s.setPair_restore p v⟩
  · cases p with
    | bc => exact ⟨s.setPair_pair_self .bc v, s.pairNat_setPair_self .bc v, rfl⟩
    | de => exact ⟨s.setPair_pair_self .de v, s.pairNat_setPair_self .de v, rfl⟩
    | hl => exact ⟨s.setPair_pair_self .hl v, s.pairNat_setPair_self .hl v, rfl⟩
    | psw =>
      exact ⟨hiByte_toNat v, fun k hk => s.setPsw_flags_getLsbD v hk,
        State.psw_toNat_of_flagsFixed (flagsFixed_norm (loByte v)), rfl⟩
  · exact ⟨s.boundTo_bind p q d, rfl⟩

end Sys2Proof.Machine
end

section
/-! A canonical sparse table is determined by what its keys read (log entry 2), and MEM with it: an address past the
65536 of R50 is listed in no memory, so the 16-bit addresses are all the keys there are. -/

namespace Sys2Proof.Machine

/-! ### What a key reads by where the listed keys stand -/

section
variable {α : Type}

theorem Sparse.get_cons_self (dflt : α) (k : Nat) (v : α) (t : List (Nat × α)) :
    Sparse.get dflt ((k, v) :: t) k = v := if_pos rfl

theorem Sparse.get_cons_other (dflt : α) {k x : Nat} (hne : k ≠ x) (v : α) (t : List (Nat × α)) :
    Sparse.get dflt ((k, v) :: t) x = Sparse.get dflt t x := if_neg hne

theorem Sparse.get_of_forall_key_ne (dflt : α) {t : List (Nat × α)} {x : Nat} (h : ∀ cell ∈ t, cell.1 ≠ x) :
    Sparse.get dflt t x = dflt := by
  induction t with
  | nil => rfl
  | cons cell rest ih =>
    rw [Sparse.get_cons_other dflt (h cell List.mem_cons_self)]
    exact ih fun c hc => h c (List.mem_cons_of_mem _ hc)

theorem Sparse.get_of_above (dflt : α) {t : List (Nat × α)} {k x : Nat} (h : Sparse.above k t = true)
    (hx : x ≤ k) : Sparse.get dflt t x = dflt := by
  simp only [Sparse.above, List.all_eq_true, decide_eq_true_eq] at h
  exact Sparse.get_of_forall_key_ne dflt fun cell hc => (lt_of_le_of_lt hx (h cell hc)).ne'

theorem Sparse.get_of_below (dflt : α) {t : List (Nat × α)} {n x : Nat} (h : Sparse.below n t = true)
    (hx : n ≤ x) : Sparse.get dflt t x = dflt := by
  simp only [Sparse.below, List.all_eq_true, decide_eq_true_eq] at h
  exact Sparse.get_of_forall_key_ne dflt fun cell hc => (lt_of_lt_of_le (h cell hc) hx).ne

theorem Sparse.above_cons_of_lt {j k : Nat} {v : α} {t : List (Nat × α)} (hjk : j < k)
    (h : Sparse.above k t = true) : Sparse.above j ((k, v) :: t) = true := by
  have hrest : Sparse.above j t = true := Sparse.above_trans hjk.le h
  simpa [Sparse.above, hjk] using hrest

/-- Behind a first key that both tables share, they read the same: keys up to it are listed in neither rest. -/
theorem Sparse.get_tail_eq {dflt v w : α} {k : Nat} {t u : List (Nat × α)}
    (ht : Sparse.above k t = true) (hu : Sparse.above k u = true)
    (h : ∀ x, Sparse.get dflt ((k, v) :: t) x = Sparse.get dflt ((k, w) :: u) x) (x : Nat) :
    Sparse.get dflt t x = Sparse.get dflt u x := by
  rcases le_or_gt x k with hx | hx
  · rw [Sparse.get_of_above dflt ht hx, Sparse.get_of_above dflt hu hx]
  · simpa only [Sparse.get_cons_other dflt hx.ne] using h x

end

/-! ### A canonical table is determined by what its keys read -/

section
variable {α : Type} [DecidableEq α] {dflt v w : α} {j k : Nat} {t u : List (Nat × α)}

theorem Sparse.canonical_cons :
    Sparse.canonical dflt ((k, v) :: t) = true ↔
      v ≠ dflt ∧ Sparse.above k t = true ∧ Sparse.canonical dflt t = true := by
  simp [Sparse.canonical, and_assoc]

/-- The first key of a canonical table reads a value that no table with only greater keys has there. -/
theorem Sparse.get_head_ne_of_above (ht : Sparse.canonical dflt ((k, v) :: t) = true) (hu : Sparse.above k u = true) :
    Sparse.get dflt ((k, v) :: t) k ≠ Sparse.get dflt u k := by
  obtain ⟨hv, -, -⟩ := Sparse.canonical_cons.mp ht
  rwa [Sparse.get_cons_self, Sparse.get_of_above dflt hu le_rfl]

theorem Sparse.head_key_le (ht : Sparse.canonical dflt ((k, v) :: t) = true)
    (hu : Sparse.canonical dflt ((j, w) :: u) = true)
    (h : ∀ x, Sparse.get dflt ((k, v) :: t) x = Sparse.get dflt ((j, w) :: u) x) : j ≤ k := by
  obtain ⟨-, habove, -⟩ := Sparse.canonical_cons.mp hu
  by_contra hlt
  exact Sparse.get_head_ne_of_above ht (Sparse.above_cons_of_lt (not_le.mp hlt) habove) (h k)

/-- By induction along the two lists: the first keys are equal, each being at most the other. -/
theorem Sparse.eq_of_get_eq (ht : Sparse.canonical dflt t = true) (hu : Sparse.canonical dflt u = true)
    (h : ∀ x, Sparse.get dflt t x = Sparse.get dflt u x) : t = u := by
  induction t generalizing u with
  | nil =>
    cases u with
    | nil => rfl
    | cons cell rest => exact absurd (h cell.1).symm (Sparse.get_head_ne_of_above hu rfl)
  | cons cell rest ih =>
    obtain ⟨k, v⟩ := cell
    cases u with
    | nil => exact absurd (h k) (Sparse.get_head_ne_of_above ht rfl)
    | cons cell' rest' =>
      obtain ⟨j, w⟩ := cell'
      obtain rfl : k = j := le_antisymm (Sparse.head_key_le hu ht fun x => (h x).symm) (Sparse.head_key_le ht hu h)
      obtain rfl : v = w := by simpa only [Sparse.get_cons_self] using h k
      obtain ⟨-, habove, hrest⟩ := Sparse.canonical_cons.mp ht
      obtain ⟨-, habove', hrest'⟩ := Sparse.canonical_cons.mp hu
      rw [ih hrest hrest' (Sparse.get_tail_eq habove habove' h)]

end

/-! ### MEM -/

/-- Two memories that read the same at every 16-bit address read the same at every key. -/
theorem Memory.get_eq_of_get_word_eq {m n : Memory} (hm : Sparse.below 65536 m = true) (hn : Sparse.below 65536 n = true)
    (h : ∀ x : Word, Sparse.get Memory.unlisted m x.toNat = Sparse.get Memory.unlisted n x.toNat) (k : Nat) :
    Sparse.get Memory.unlisted m k = Sparse.get Memory.unlisted n k := by
  rcases lt_or_ge k 65536 with hk | hk
  · have hword : (BitVec.ofNat 16 k).toNat = k := Nat.mod_eq_of_lt hk
    rw [← hword]
    exact h _
  · rw [Sparse.get_of_below _ hm hk, Sparse.get_of_below _ hn hk]

/-- Settles O52: the 16-bit addresses are all the keys of a memory, and the keys determine a canonical table. -/
theorem canonicalMemoryIsUnique : Obligations.CanonicalMemoryIsUnique := by
  intro m n hm hn h
  simp only [Memory.wf, Bool.and_eq_true] at hm hn
  obtain ⟨hcanon, hbelow⟩ := hm
  obtain ⟨hcanon', hbelow'⟩ := hn
  exact Sparse.eq_of_get_eq hcanon hcanon' (Memory.get_eq_of_get_word_eq hbelow hbelow' h)

end Sys2Proof.Machine
end
